-- ==== Sys2Proof/Word.lean ====
section
/-! DEFINITION. The data widths of 00_scope.md R8: 8-bit data, 16-bit addresses and pairs. -/

namespace Sys2Proof

/-- An 8-bit register, register half, memory cell or immediate (00_scope.md R8). -/
abbrev Byte := BitVec 8

/-- A 16-bit register pair, PC, SP, address or port-mirror slot (00_scope.md R8). -/
abbrev Word := BitVec 16

end Sys2Proof
end

