-- ==== Sys2Proof/Config.lean ====
section
/-! DEFINITION. What a host or an implementation fixes: the type of the address-wrap parameter and the one free
value of the specification, the byte an input handler returns. -/

namespace Sys2Proof

/-- `WRAP_POLICY` (00_scope.md R8, 20_memory.md R64): what forming an address outside 0x0000 to 0xFFFF does. -/
inductive WrapPolicy where
  /-- The step ends with `AddressWrap` (the default of decision D5). -/
  | fault
  /-- The address is taken modulo 65536, as the silicon does. -/
  | wrap
  deriving DecidableEq, Repr

/-- The byte the host's input handler returns on its `draw`-th call (counted from 0), for port `port`.
20_memory.md R71 constrains the value by no rule, so it is a FREE VALUE and has no body (log entry 2). -/
opaque Config.inputByte (draw : Nat) (port : Byte) : Byte

end Sys2Proof
end

