-- ==== Sys2Proof/Machine/Params.lean ====
section
/-! DEFINITION. The constants of 00_scope.md R8, and the parameters that it leaves to whoever builds the machine, with
their defaults (log entries 1, 11 and 14). -/

namespace Sys2Proof.Machine

/-- The address of the bootstrap byte (10_state.md R48). -/
def bootAddress : Nat := 1

/-- Are the host's port handlers installed in `State.reset` (log entry 3)? -/
def handlersInstalledAtReset : Bool := true

/-- The spacing of the interrupt vectors (00_scope.md R8). -/
def vectorSpacing : Word := 8

/-- `INT_COST` (00_scope.md R8). -/
def intCost : Nat := 11

/-- `MAX_COST` (00_scope.md R8). -/
def maxCost : Nat := 18

/-- `UNDOC_COST` (decision D12): the cost of an undocumented slot. -/
def undocCost : Nat := 4

/-- The entry of a 16 by 16 table at a byte: row the high nibble, column the low nibble. -/
def nibbleTable (rows : List (List Nat)) (op : Byte) : Nat := (rows.getD (op.toNat / 16) []).getD (op.toNat % 16) 0

/-- The parameters of 00_scope.md R8: arguments of the model, fixed while the machine runs. -/
structure Params where
  /-- `WRAP_POLICY` (20_memory.md R64, decision D5). -/
  wrapPolicy : WrapPolicy
  /-- `RESET_SP`, the top of memory (10_state.md R48, decision D2). -/
  resetSp : Word
  /-- `BOOT_OPCODE` (10_state.md R48, decision D3). -/
  bootOpcode : Byte
  /-- `CYCLE_COST`, 16 rows of 16 (70_reset_and_hazards.md R325, decision D11). -/
  cycleRows : List (List Nat)
  /-- `VRAM_BASE`, the first address of the video view (20_memory.md R76, decision D14). -/
  vramBase : Word
  /-- `VRAM_END`, the last address of the video view. -/
  vramEnd : Word
  deriving DecidableEq, Repr

/-- `CYCLE_COST[op]` (70_reset_and_hazards.md R325): a function of the opcode byte alone. -/
def Params.cycleCost (p : Params) (op : Byte) : Nat := nibbleTable p.cycleRows op

/-- The charge of one halted idle iteration, `CYCLE_COST[0x76]` (44_stack_io_control.md R249). -/
def Params.idleCost (p : Params) : Nat := p.cycleCost 0x76

/-- Every charge of a step is at least 1 and at most `MAX_COST`, that of an EI which delivers included
(70_reset_and_hazards.md R322), and the video range is not reversed (log entry 19). -/
def Params.wf (p : Params) : Bool :=
  ((List.range 256).all fun k => decide (1 ≤ p.cycleCost (BitVec.ofNat 8 k)) &&
    decide (p.cycleCost (BitVec.ofNat 8 k) ≤ maxCost)) &&
  decide (p.cycleCost 0xFB + intCost ≤ maxCost) && decide (p.vramBase.toNat ≤ p.vramEnd.toNat)

/-- The default of `CYCLE_COST`, the table of 70_reset_and_hazards.md R325. -/
def datasheetRows : List (List Nat) := [
  [4, 10, 7, 5, 5, 5, 7, 4, undocCost, 10, 7, 5, 5, 5, 7, 4],
  [undocCost, 10, 7, 5, 5, 5, 7, 4, undocCost, 10, 7, 5, 5, 5, 7, 4],
  [undocCost, 10, 16, 5, 5, 5, 7, 4, undocCost, 10, 16, 5, 5, 5, 7, 4],
  [undocCost, 10, 13, 5, 10, 10, 10, 4, undocCost, 10, 13, 5, 5, 5, 7, 4],
  [5, 5, 5, 5, 5, 5, 7, 5, 5, 5, 5, 5, 5, 5, 7, 5],
  [5, 5, 5, 5, 5, 5, 7, 5, 5, 5, 5, 5, 5, 5, 7, 5],
  [5, 5, 5, 5, 5, 5, 7, 5, 5, 5, 5, 5, 5, 5, 7, 5],
  [7, 7, 7, 7, 7, 7, 7, 7, 5, 5, 5, 5, 5, 5, 7, 5],
  [4, 4, 4, 4, 4, 4, 7, 4, 4, 4, 4, 4, 4, 4, 7, 4],
  [4, 4, 4, 4, 4, 4, 7, 4, 4, 4, 4, 4, 4, 4, 7, 4],
  [4, 4, 4, 4, 4, 4, 7, 4, 4, 4, 4, 4, 4, 4, 7, 4],
  [4, 4, 4, 4, 4, 4, 7, 4, 4, 4, 4, 4, 4, 4, 7, 4],
  [11, 10, 10, 10, 17, 11, 7, 11, 11, 10, 10, undocCost, 17, 17, 7, 11],
  [11, 10, 10, 10, 17, 11, 7, 11, 11, undocCost, 10, 10, 17, undocCost, 7, 11],
  [11, 10, 10, 18, 17, 11, 7, 11, 11, 5, 10, 4, 17, undocCost, 7, 11],
  [11, 10, 10, 4, 17, 11, 7, 11, 11, 5, 10, 4, 17, undocCost, 7, 11]]

/-- The parameters at the defaults of 00_scope.md R8; the video range is the one suggested there (log entry 14). -/
def defaultParams : Params where
  wrapPolicy := .fault
  resetSp := 0xFFFF
  bootOpcode := 0xC3
  cycleRows := datasheetRows
  vramBase := 0x2400
  vramEnd := 0x3FFF

end Sys2Proof.Machine
end

