-- ==== Sys2Proof/Machine/Memory.lean ====
section
/-! DEFINITION. Sparse tables in one canonical form, and the two that the machine has: the 65536 bytes of memory
(10_state.md R42) and the 256 slots of the port mirror (10_state.md R45). -/

namespace Sys2Proof.Machine

/-- The value at `key`: the listed one, or what an unlisted key reads as. -/
def Sparse.read {α : Type} (unlisted : Nat → α) : List (Nat × α) → Nat → α
  | [], key => unlisted key
  | (k, v) :: rest, key => if k = key then v else Sparse.read unlisted rest key

/-- Puts a new entry in front of the first larger key. -/
def Sparse.insert {α : Type} (key : Nat) (v : α) : List (Nat × α) → List (Nat × α)
  | [] => [(key, v)]
  | (k, u) :: rest => if key < k then (key, v) :: (k, u) :: rest else (k, u) :: Sparse.insert key v rest

/-- Writes `v` at `key`; a value that an unlisted key reads as anyway is not listed. -/
def Sparse.write {α : Type} [DecidableEq α] (unlisted : Nat → α) (m : List (Nat × α)) (key : Nat) (v : α) :
    List (Nat × α) :=
  let others := m.filter fun entry => entry.1 ≠ key
  if v = unlisted key then others else Sparse.insert key v others

/-- The canonical form: keys strictly rising, all below `bound`, and no entry that an unlisted key would read as. -/
abbrev Sparse.wf {α : Type} [DecidableEq α] (unlisted : Nat → α) (bound : Nat) (m : List (Nat × α)) : Prop :=
  (m.map Prod.fst).Pairwise (· < ·) ∧ ∀ entry ∈ m, entry.1 < bound ∧ entry.2 ≠ unlisted entry.1

/-- Memory: address and byte pairs in canonical form. -/
abbrev Memory := List (Nat × Byte)

/-- What an address that nothing has written reads as: the reset contents of 10_state.md R48, zero everywhere but
`BOOT_OPCODE`, here `boot`, at address 1 (log entry 5). -/
def Memory.unlisted (boot : Byte) (address : Nat) : Byte := if address = bootAddress then boot else 0

/-- `MemRead(a, 1)` (20_memory.md R61). -/
def Memory.read (boot : Byte) (m : Memory) (address : Nat) : Byte := Sparse.read (Memory.unlisted boot) m address

/-- `MemWrite(a, 1, v)` (20_memory.md R61). -/
def Memory.write (boot : Byte) (m : Memory) (address : Nat) (v : Byte) : Memory :=
  Sparse.write (Memory.unlisted boot) m address v

/-- The canonical form of memory, with every address one of the 65536 (10_state.md R42). -/
abbrev Memory.wf (boot : Byte) (m : Memory) : Prop := Sparse.wf (Memory.unlisted boot) 65536 m

/-- Every byte 0x00, the bootstrap byte included: the `clear` of `loadBinary` (20_memory.md R75). -/
def Memory.zeroed (boot : Byte) : Memory := Memory.write boot [] bootAddress 0

/-- `mem[address + i] <- bytes[i]` for each byte of an image (20_memory.md R75). -/
def Memory.load (boot : Byte) (m : Memory) (address : Nat) : List Byte → Memory
  | [] => m
  | v :: rest => Memory.load boot (Memory.write boot m address v) (address + 1) rest

/-- The port mirror: port and 16-bit slot pairs in canonical form (10_state.md R45). -/
abbrev Ports := List (Nat × Word)

/-- Every slot is 0x0000 after reset (10_state.md R48). -/
def Ports.unlisted (_ : Nat) : Word := 0

/-- The passive mirror read (20_memory.md R73). -/
def Ports.read (m : Ports) (port : Byte) : Word := Sparse.read Ports.unlisted m port.toNat

/-- `ports[p] <- v` (20_memory.md R72). -/
def Ports.write (m : Ports) (port : Byte) (v : Word) : Ports := Sparse.write Ports.unlisted m port.toNat v

/-- The canonical form of the mirror, with `NUM_PORTS` = 256 slots (10_state.md R45). -/
abbrev Ports.wf (m : Ports) : Prop := Sparse.wf Ports.unlisted 256 m

end Sys2Proof.Machine
end

