-- ==== Sys2Proof/Machine/State.lean ====
section
/-! DEFINITION. The machine's state as plain data, the reasons a step can stop, and the state after reset. -/

namespace Sys2Proof.Machine

/-- The five flags (10_state.md R30). The constant bits of the packed byte are not state (R33). -/
structure Flags where
  s : Bool
  z : Bool
  ac : Bool
  p : Bool
  cy : Bool
  deriving DecidableEq, Repr

/-- The model's faults, the closed list of 60_exceptions.md R270. Each carries the values that rule records. -/
inductive Fault where
  /-- Raised by a step, or by interrupt entry, that forms an address outside 0x0000 to 0xFFFF under `WrapPolicy.fault`
  (20_memory.md R64): pc0 of the step (PC at interrupt entry) and the unbounded address. Safe: the machine stops where
  the silicon would go on. -/
  | addressWrap (pc0 : Word) (address : Int)
  /-- Raised by IN or OUT when no handler is installed (20_memory.md R71, R72): pc0 and the port. Safe: the machine
  stops where no value exists. -/
  | missingHandler (pc0 : Word) (port : Byte)
  deriving DecidableEq, Repr

/-- Requests for which the model has no meaning (60_exceptions.md R271). -/
inductive Refusal where
  /-- Raised by `exec` for an instruction that has no meaning yet. Safe. No arm raises it. -/
  | notModelled (mnemonic : String)
  /-- Raised by the host operation `raiseInterrupt` for an id outside 0 to 7 (R271 (a)). Safe: no move. -/
  | interruptId (id : Nat)
  /-- Raised by any host operation requested while an `update` is in flight (R271 (b)). Safe: no move. -/
  | updateInFlight
  /-- Raised by the host operation `update` when a cost table that is not well-formed charges nothing, so that the loop of
  70_reset_and_hazards.md R320 need not end. Safe: no move; with well-formed parameters it is never raised (log entry
  18). -/
  | endlessUpdate
  deriving DecidableEq, Repr

/-- What a step tells the host, in program order. -/
inductive Event where
  /-- One call of the input handler, with the byte it returned (44_stack_io_control.md R236, R237). -/
  | input (port value : Byte)
  /-- One call of the output handler (20_memory.md R72). -/
  | output (port value : Byte)
  /-- The optional diagnostic of the fallback (45_undocumented.md R261). -/
  | undocumented (pc0 : Word) (op : Byte)
  deriving DecidableEq, Repr

/-- Everything the specification gives the machine (10_state.md R20 to R46), and the model's own last four fields. -/
structure State where
  /-- The accumulator (R20). -/
  a : Byte
  b : Byte
  c : Byte
  d : Byte
  e : Byte
  h : Byte
  l : Byte
  /-- The stack pointer (R26). -/
  sp : Word
  /-- The program counter (R27). -/
  pc : Word
  flags : Flags
  /-- IE (R36). -/
  ie : Bool
  /-- PEND (R37): 0x00 empty, 0x80 | id a deferred request. -/
  pend : Byte
  /-- HALT (R38). -/
  halt : Bool
  /-- The running cycle budget (R40). -/
  budget : Int
  /-- LASTOP (R41). -/
  lastop : Byte
  /-- The 65536 bytes of memory (R42). -/
  mem : Memory
  /-- The port mirror (R45). -/
  ports : Ports
  /-- Is an input handler installed (R46)? -/
  inHandler : Bool
  /-- Is an output handler installed (R46)? -/
  outHandler : Bool
  /-- The model's own: how many bytes the input handler has returned (log entry 2). -/
  inDraws : Nat
  /-- The model's own: the trace of handler calls and diagnostics, oldest first (log entry 4). -/
  events : List Event
  /-- The parameters of 00_scope.md R8, which no operation writes (log entry 1). -/
  params : Params
  /-- The fault record of 60_exceptions.md R270 and 70_reset_and_hazards.md R311 (log entry 6). -/
  faultRec : Option Fault
  deriving DecidableEq, Repr

/-- The state after construction with the parameters `p` (10_state.md R48, 70_reset_and_hazards.md R310): no handler is
installed yet (log entry 3). -/
def State.built (p : Params) : State where
  a := 0
  b := 0
  c := 0
  d := 0
  e := 0
  h := 0
  l := 0
  sp := p.resetSp
  pc := 0
  flags := ⟨false, false, false, false, false⟩
  ie := false
  pend := 0
  halt := false
  budget := 0
  lastop := 0
  mem := []
  ports := []
  inHandler := false
  outHandler := false
  inDraws := 0
  events := []
  params := p
  faultRec := none

/-- The state after reset (10_state.md R48), with the default parameters. The handlers, which reset leaves as they are, are
installed here (log entry 3). -/
def State.reset : State :=
  { State.built defaultParams with inHandler := handlersInstalledAtReset, outHandler := handlersInstalledAtReset }

end Sys2Proof.Machine
end

