-- ==== Sys2Proof/Machine/Flags.lean ====
section
/-! DEFINITION. Every flag computation: the 8-bit adder and subtractor, the sign, zero and parity rule, the packed flag
byte, decimal adjust and the rotates. -/

namespace Sys2Proof.Machine

/-- `(r, cy, ac)` of 41_arithmetic.md R140. -/
structure Sum8 where
  r : Byte
  cy : Bool
  ac : Bool
  deriving DecidableEq, Repr

/-- `add8(a, b, cin)` (41_arithmetic.md R140). -/
def add8 (a b : Byte) (cin : Bool) : Sum8 :=
  let sum := a.toNat + b.toNat + cin.toNat
  { r := BitVec.ofNat 8 sum
    cy := decide (256 ≤ sum)
    ac := decide (16 ≤ a.toNat % 16 + b.toNat % 16 + cin.toNat) }

/-- `sub8(a, b, bin)` (41_arithmetic.md R141): the addition of the complement, CY the inverse of its carry. -/
def sub8 (a b : Byte) (bin : Bool) : Sum8 :=
  let sum := add8 a (~~~b) (!bin)
  { sum with cy := !sum.cy }

/-- Even parity: 1 when the number of 1 bits is even (10_state.md R31). -/
def evenParity (r : Byte) : Bool :=
  !(r.getLsbD 0 ^^ r.getLsbD 1 ^^ r.getLsbD 2 ^^ r.getLsbD 3 ^^ r.getLsbD 4 ^^ r.getLsbD 5 ^^ r.getLsbD 6 ^^ r.getLsbD 7)

/-- `setSZP(r)` (10_state.md R31): AC and CY are kept. -/
def Flags.setSzp (f : Flags) (r : Byte) : Flags :=
  { f with s := r.getLsbD 7, z := decide (r = 0), p := evenParity r }

/-- S, Z and P of a result with the AC and CY given. -/
def flagsOf (r : Byte) (ac cy : Bool) : Flags :=
  { s := r.getLsbD 7, z := decide (r = 0), ac := ac, p := evenParity r, cy := cy }

/-- The flags of INR on `v` (41_arithmetic.md R155): CY is kept. -/
def Flags.increment (f : Flags) (v : Byte) : Flags := { f.setSzp (v + 1) with ac := decide (v.toNat % 16 = 15) }

/-- The flags of DCR on `v` (41_arithmetic.md R157): CY is kept. -/
def Flags.decrement (f : Flags) (v : Byte) : Flags := { f.setSzp (v - 1) with ac := decide (v.toNat % 16 ≠ 0) }

/-- `pack()` (10_state.md R32): S Z 0 AC 0 P 1 CY. -/
def Flags.pack (f : Flags) : Byte :=
  BitVec.ofBool f.s ++ BitVec.ofBool f.z ++ 0#1 ++ BitVec.ofBool f.ac ++ 0#1 ++ BitVec.ofBool f.p ++ 1#1 ++
    BitVec.ofBool f.cy

/-- `unpack(f)` (10_state.md R33): bits 5, 3 and 1 are discarded. -/
def Flags.unpack (v : Byte) : Flags :=
  { s := v.getLsbD 7, z := v.getLsbD 6, ac := v.getLsbD 4, p := v.getLsbD 2, cy := v.getLsbD 0 }

/-- The decimal adjust of `a` (41_arithmetic.md R162). CY is never cleared. -/
def daa8 (a : Byte) (ac cy : Bool) : Sum8 :=
  let lsb := a.toNat % 16
  let msb := a.toNat / 16
  let low : Bool := ac || decide (9 < lsb)
  let high : Bool := cy || decide (9 < msb) || (decide (9 ≤ msb) && decide (9 < lsb))
  let corr : Byte := (if low then 0x06 else 0) + (if high then 0x60 else 0)
  { add8 a corr false with cy := cy || high }

/-- The result and CY of `RLC` (42_logical.md R192). -/
def rotLeft (a : Byte) : Byte × Bool := ((a <<< 1) ||| (BitVec.ofBool (a.getLsbD 7)).zeroExtend 8, a.getLsbD 7)

/-- The result and CY of `RRC` (42_logical.md R193). -/
def rotRight (a : Byte) : Byte × Bool := ((a >>> 1) ||| ((BitVec.ofBool (a.getLsbD 0)).zeroExtend 8 <<< 7), a.getLsbD 0)

/-- The result and CY of `RAL` (42_logical.md R194). -/
def rotLeftCy (a : Byte) (cy : Bool) : Byte × Bool := ((a <<< 1) ||| (BitVec.ofBool cy).zeroExtend 8, a.getLsbD 7)

/-- The result and CY of `RAR` (42_logical.md R195). -/
def rotRightCy (a : Byte) (cy : Bool) : Byte × Bool :=
  ((a >>> 1) ||| ((BitVec.ofBool cy).zeroExtend 8 <<< 7), a.getLsbD 0)

end Sys2Proof.Machine
end

