-- ==== Sys2Proof/Machine/Bytes.lean ====
section
/-! DEFINITION. The two bytes of a 16-bit value (00_scope.md R9). -/

namespace Sys2Proof

/-- `hi ++ lo` of 00_scope.md R9: `(hi << 8) | lo`. -/
def wordOf (hi lo : Byte) : Word := hi ++ lo

/-- `w[15:8]`. -/
def hiByte (w : Word) : Byte := w.extractLsb' 8 8

/-- `w[7:0]`. -/
def loByte (w : Word) : Byte := w.extractLsb' 0 8

end Sys2Proof
end

