-- ==== Sys2Proof/Machine/Ops.lean ====
section
/-! DEFINITION. The named operations over state and memory: address formation, byte and word access, the stack, the
port bus, interrupt entry, and how a meaning ends. -/

namespace Sys2Proof.Machine

/-- What a meaning answers. -/
abbrev Out := Host.Outcome State Fault Refusal

/-- The next state of a computation that may fault. -/
def outcome : Except Fault State → Out
  | .ok t => .next t
  | .error f => .fault f

def State.setPc (s : State) (v : Word) : State := { s with pc := v }

def State.setSp (s : State) (v : Word) : State := { s with sp := v }

def State.setFlags (s : State) (f : Flags) : State := { s with flags := f }

/-- Writes CY alone. -/
def State.setCy (s : State) (v : Bool) : State := { s with flags := { s.flags with cy := v } }

/-- Appends one event to the trace (log entry 4). -/
def State.emit (s : State) (ev : Event) : State := { s with events := s.events ++ [ev] }

/-- 20_memory.md R64: the address `z`, computed on unbounded integers by the step at `pc0`, under the wrap policy of
the state. -/
def formAddr (pc0 : Word) (s : State) (z : Int) : Except Fault Word :=
  if (0 ≤ z ∧ z ≤ 65535) ∨ s.params.wrapPolicy = .wrap then .ok (BitVec.ofInt 16 z) else .error (.addressWrap pc0 z)

/-- `next = pc0 + len` of 30_encoding.md R100. -/
def nextPc (len : Nat) (s : State) : Except Fault Word := formAddr s.pc s (s.pc.toNat + len)

/-- Ends an instruction of `len` bytes that transfers no control (10_state.md R27): `t` holds its other effects. -/
def complete (len : Nat) (s t : State) : Out := outcome do
  let next ← nextPc len s
  return t.setPc next

/-- `MemRead(a, 1)` (20_memory.md R61). -/
def State.readByte (s : State) (addr : Word) : Byte := s.mem.read s.params.bootOpcode addr.toNat

/-- `MemWrite(a, 1, v)` (20_memory.md R61). -/
def State.writeByte (s : State) (addr : Word) (v : Byte) : State :=
  { s with mem := s.mem.write s.params.bootOpcode addr.toNat v }

/-- `MemRead(a, 2)` (20_memory.md R62). -/
def readWord (pc0 : Word) (s : State) (addr : Word) : Except Fault Word := do
  let upper ← formAddr pc0 s (addr.toNat + 1)
  return wordOf (s.readByte upper) (s.readByte addr)

/-- `MemWrite(a, 2, v)` (20_memory.md R63). -/
def writeWord (pc0 : Word) (s : State) (addr v : Word) : Except Fault State := do
  let upper ← formAddr pc0 s (addr.toNat + 1)
  return (s.writeByte addr (loByte v)).writeByte upper (hiByte v)

/-- `push16(v)` (20_memory.md R65). -/
def push16 (pc0 : Word) (s : State) (v : Word) : Except Fault State := do
  let lower ← formAddr pc0 s (s.sp.toNat - 2)
  let t ← writeWord pc0 s lower v
  return t.setSp lower

/-- `pop16()` (20_memory.md R66): the value and the state with SP advanced. -/
def pop16 (pc0 : Word) (s : State) : Except Fault (Word × State) := do
  let v ← readWord pc0 s s.sp
  let upper ← formAddr pc0 s (s.sp.toNat + 2)
  return (v, s.setSp upper)

/-- `PortIn(p)` (20_memory.md R71): one call of the input handler, whose byte is the next free value. -/
def portIn (pc0 : Word) (s : State) (port : Byte) : Except Fault (Byte × State) :=
  if s.inHandler then
    let v := Config.inputByte s.inDraws port
    .ok (v, { s with inDraws := s.inDraws + 1 }.emit (.input port v))
  else .error (.missingHandler pc0 port)

/-- `PortOut(p, v)` (20_memory.md R72): the mirror, then one call of the output handler. -/
def portOut (pc0 : Word) (s : State) (port v : Byte) : Except Fault State :=
  if s.outHandler then .ok ({ s with ports := s.ports.write port (v.zeroExtend 16) }.emit (.output port v))
  else .error (.missingHandler pc0 port)

/-- The address of vector `id` (20_memory.md R74). -/
def vectorAddr (id : Byte) : Word := id.zeroExtend 16 * vectorSpacing

/-- Interrupt entry with `id` (60_exceptions.md R282), the one way the machine takes an interrupt: PC is pushed, further
interrupts are disabled, the halted state ends, control passes to the vector and the entry cost is charged. -/
def enterInterrupt (pc0 : Word) (id : Byte) (s : State) : Except Fault State := do
  let t ← push16 pc0 s s.pc
  return { t with ie := false, halt := false, pc := vectorAddr id, budget := t.budget - intCost }

/-- The return from an interrupt is the return from a call (60_exceptions.md R286): PC is popped, IE is not changed. -/
def returnTo (s : State) : Except Fault State := do
  let (v, t) ← pop16 s.pc s
  return t.setPc v

/-- Subtracts a cost from the running budget (70_reset_and_hazards.md R320). -/
def State.charge (s : State) (cost : Nat) : State := { s with budget := s.budget - cost }

end Sys2Proof.Machine
end

