-- ==== Sys2Proof/Machine/Arithmetic.lean ====
section
/-! DEFINITION. Arithmetic (41_arithmetic.md). -/

namespace Sys2Proof.Machine

/-- Writes a sum to A and all five flags. -/
def accumulate (len : Nat) (sum : Sum8) (s : State) : Out :=
  complete len s ((s.setReg .a sum.r).setFlags (flagsOf sum.r sum.ac sum.cy))

/-- ADD, ADC and their forms (R143 to R148). -/
def addA (len : Nat) (v : Byte) (cin : Bool) (s : State) : Out := accumulate len (add8 s.a v cin) s

/-- SUB, SBB and their forms (R149 to R154). -/
def subA (len : Nat) (v : Byte) (bin : Bool) (s : State) : Out := accumulate len (sub8 s.a v bin) s

/-- `INR d` (R155). -/
def inrReg (dst : Reg) (s : State) : Out :=
  complete 1 s ((s.setReg dst (s.reg dst + 1)).setFlags (s.flags.increment (s.reg dst)))

/-- `DCR d` (R157). -/
def dcrReg (dst : Reg) (s : State) : Out :=
  complete 1 s ((s.setReg dst (s.reg dst - 1)).setFlags (s.flags.decrement (s.reg dst)))

/-- `INX p` (R159). -/
def inxPair (pair : Pair) (s : State) : Out := complete 1 s (s.setPair pair (s.pair pair + 1))

/-- `DCX p` (R160). -/
def dcxPair (pair : Pair) (s : State) : Out := complete 1 s (s.setPair pair (s.pair pair - 1))

/-- `DAD p` (R161). -/
def dadPair (pair : Pair) (s : State) : Out :=
  complete 1 s ((s.setPair .hl (s.hl + s.pair pair)).setCy (decide (65536 ≤ s.hl.toNat + (s.pair pair).toNat)))

/-- `ADD B` (R143). -/
def execAddB (s : State) : Out := addA 1 (s.reg .b) false s

/-- `ADD C` (R143). -/
def execAddC (s : State) : Out := addA 1 (s.reg .c) false s

/-- `ADD D` (R143). -/
def execAddD (s : State) : Out := addA 1 (s.reg .d) false s

/-- `ADD E` (R143). -/
def execAddE (s : State) : Out := addA 1 (s.reg .e) false s

/-- `ADD H` (R143). -/
def execAddH (s : State) : Out := addA 1 (s.reg .h) false s

/-- `ADD L` (R143). -/
def execAddL (s : State) : Out := addA 1 (s.reg .l) false s

/-- `ADD A` (R143). -/
def execAddA (s : State) : Out := addA 1 (s.reg .a) false s

/-- `ADD M` (R144). -/
def execAddM (s : State) : Out := addA 1 s.m false s

/-- `ADI d8` (R145). -/
def execAdi (d8 : Byte) (s : State) : Out := addA 2 d8 false s

/-- `ADC B` (R146). -/
def execAdcB (s : State) : Out := addA 1 (s.reg .b) s.flags.cy s

/-- `ADC C` (R146). -/
def execAdcC (s : State) : Out := addA 1 (s.reg .c) s.flags.cy s

/-- `ADC D` (R146). -/
def execAdcD (s : State) : Out := addA 1 (s.reg .d) s.flags.cy s

/-- `ADC E` (R146). -/
def execAdcE (s : State) : Out := addA 1 (s.reg .e) s.flags.cy s

/-- `ADC H` (R146). -/
def execAdcH (s : State) : Out := addA 1 (s.reg .h) s.flags.cy s

/-- `ADC L` (R146). -/
def execAdcL (s : State) : Out := addA 1 (s.reg .l) s.flags.cy s

/-- `ADC A` (R146). -/
def execAdcA (s : State) : Out := addA 1 (s.reg .a) s.flags.cy s

/-- `ADC M` (R147). -/
def execAdcM (s : State) : Out := addA 1 s.m s.flags.cy s

/-- `ACI d8` (R148). -/
def execAci (d8 : Byte) (s : State) : Out := addA 2 d8 s.flags.cy s

/-- `SUB B` (R149). -/
def execSubB (s : State) : Out := subA 1 (s.reg .b) false s

/-- `SUB C` (R149). -/
def execSubC (s : State) : Out := subA 1 (s.reg .c) false s

/-- `SUB D` (R149). -/
def execSubD (s : State) : Out := subA 1 (s.reg .d) false s

/-- `SUB E` (R149). -/
def execSubE (s : State) : Out := subA 1 (s.reg .e) false s

/-- `SUB H` (R149). -/
def execSubH (s : State) : Out := subA 1 (s.reg .h) false s

/-- `SUB L` (R149). -/
def execSubL (s : State) : Out := subA 1 (s.reg .l) false s

/-- `SUB A` (R149). -/
def execSubA (s : State) : Out := subA 1 (s.reg .a) false s

/-- `SUB M` (R150). -/
def execSubM (s : State) : Out := subA 1 s.m false s

/-- `SUI d8` (R151). -/
def execSui (d8 : Byte) (s : State) : Out := subA 2 d8 false s

/-- `SBB B` (R152). -/
def execSbbB (s : State) : Out := subA 1 (s.reg .b) s.flags.cy s

/-- `SBB C` (R152). -/
def execSbbC (s : State) : Out := subA 1 (s.reg .c) s.flags.cy s

/-- `SBB D` (R152). -/
def execSbbD (s : State) : Out := subA 1 (s.reg .d) s.flags.cy s

/-- `SBB E` (R152). -/
def execSbbE (s : State) : Out := subA 1 (s.reg .e) s.flags.cy s

/-- `SBB H` (R152). -/
def execSbbH (s : State) : Out := subA 1 (s.reg .h) s.flags.cy s

/-- `SBB L` (R152). -/
def execSbbL (s : State) : Out := subA 1 (s.reg .l) s.flags.cy s

/-- `SBB A` (R152). -/
def execSbbA (s : State) : Out := subA 1 (s.reg .a) s.flags.cy s

/-- `SBB M` (R153). -/
def execSbbM (s : State) : Out := subA 1 s.m s.flags.cy s

/-- `SBI d8` (R154). -/
def execSbi (d8 : Byte) (s : State) : Out := subA 2 d8 s.flags.cy s

/-- `INR B` (R155). -/
def execInrB (s : State) : Out := inrReg .b s

/-- `INR C` (R155). -/
def execInrC (s : State) : Out := inrReg .c s

/-- `INR D` (R155). -/
def execInrD (s : State) : Out := inrReg .d s

/-- `INR E` (R155). -/
def execInrE (s : State) : Out := inrReg .e s

/-- `INR H` (R155). -/
def execInrH (s : State) : Out := inrReg .h s

/-- `INR L` (R155). -/
def execInrL (s : State) : Out := inrReg .l s

/-- `INR A` (R155). -/
def execInrA (s : State) : Out := inrReg .a s

/-- `INR M` (R156). -/
def execInrM (s : State) : Out := complete 1 s ((s.setM (s.m + 1)).setFlags (s.flags.increment s.m))

/-- `DCR B` (R157). -/
def execDcrB (s : State) : Out := dcrReg .b s

/-- `DCR C` (R157). -/
def execDcrC (s : State) : Out := dcrReg .c s

/-- `DCR D` (R157). -/
def execDcrD (s : State) : Out := dcrReg .d s

/-- `DCR E` (R157). -/
def execDcrE (s : State) : Out := dcrReg .e s

/-- `DCR H` (R157). -/
def execDcrH (s : State) : Out := dcrReg .h s

/-- `DCR L` (R157). -/
def execDcrL (s : State) : Out := dcrReg .l s

/-- `DCR A` (R157). -/
def execDcrA (s : State) : Out := dcrReg .a s

/-- `DCR M` (R158). -/
def execDcrM (s : State) : Out := complete 1 s ((s.setM (s.m - 1)).setFlags (s.flags.decrement s.m))

/-- `INX B` (R159). -/
def execInxB (s : State) : Out := inxPair .bc s

/-- `INX D` (R159). -/
def execInxD (s : State) : Out := inxPair .de s

/-- `INX H` (R159). -/
def execInxH (s : State) : Out := inxPair .hl s

/-- `INX SP` (R159). -/
def execInxSp (s : State) : Out := inxPair .sp s

/-- `DCX B` (R160). -/
def execDcxB (s : State) : Out := dcxPair .bc s

/-- `DCX D` (R160). -/
def execDcxD (s : State) : Out := dcxPair .de s

/-- `DCX H` (R160). -/
def execDcxH (s : State) : Out := dcxPair .hl s

/-- `DCX SP` (R160). -/
def execDcxSp (s : State) : Out := dcxPair .sp s

/-- `DAD B` (R161). -/
def execDadB (s : State) : Out := dadPair .bc s

/-- `DAD D` (R161). -/
def execDadD (s : State) : Out := dadPair .de s

/-- `DAD H` (R161). -/
def execDadH (s : State) : Out := dadPair .hl s

/-- `DAD SP` (R161). -/
def execDadSp (s : State) : Out := dadPair .sp s

/-- `DAA` (R162). -/
def execDaa (s : State) : Out := accumulate 1 (daa8 s.a s.flags.ac s.flags.cy) s

end Sys2Proof.Machine
end

