-- ==== Sys2Proof/Machine/Branch.lean ====
section
/-! DEFINITION. Branch, call, return and restart (43_branch.md). No instruction of this file writes a flag. `next` is formed at the
fetch, so it faults even where control is transferred. -/

namespace Sys2Proof.Machine

/-- Pushes `next` and transfers to `target` (R214). -/
def callTo (target next : Word) (s : State) : Except Fault State := do
  let t ← push16 s.pc s next
  return t.setPc target

/-- `Jccc a16` (R212). -/
def jumpOn (cond : Cond) (target : Word) (s : State) : Out := outcome do
  let next ← nextPc 3 s
  return s.setPc (if cond.holds s.flags then target else next)

/-- `Cccc a16` (R215). -/
def callOn (cond : Cond) (target : Word) (s : State) : Out := outcome do
  let next ← nextPc 3 s
  if cond.holds s.flags then callTo target next s else return s.setPc next

/-- `Rccc` (R217). -/
def returnOn (cond : Cond) (s : State) : Out := outcome do
  let next ← nextPc 1 s
  if cond.holds s.flags then returnTo s else return s.setPc next

/-- `RST n` (R218). -/
def restart (n : Byte) (s : State) : Out := outcome do
  let next ← nextPc 1 s
  callTo (vectorAddr n) next s

/-- `JMP a16` (R211). -/
def execJmp (a16 : Word) (s : State) : Out := outcome do
  let _ ← nextPc 3 s
  return s.setPc a16

/-- `JNZ a16` (R212). -/
def execJnz (a16 : Word) (s : State) : Out := jumpOn .nz a16 s

/-- `JZ a16` (R212). -/
def execJz (a16 : Word) (s : State) : Out := jumpOn .z a16 s

/-- `JNC a16` (R212). -/
def execJnc (a16 : Word) (s : State) : Out := jumpOn .nc a16 s

/-- `JC a16` (R212). -/
def execJc (a16 : Word) (s : State) : Out := jumpOn .c a16 s

/-- `JPO a16` (R212). -/
def execJpo (a16 : Word) (s : State) : Out := jumpOn .po a16 s

/-- `JPE a16` (R212). -/
def execJpe (a16 : Word) (s : State) : Out := jumpOn .pe a16 s

/-- `JP a16` (R212). -/
def execJp (a16 : Word) (s : State) : Out := jumpOn .p a16 s

/-- `JM a16` (R212). -/
def execJm (a16 : Word) (s : State) : Out := jumpOn .m a16 s

/-- `PCHL` (R213). -/
def execPchl (s : State) : Out := outcome do
  let _ ← nextPc 1 s
  return s.setPc s.hl

/-- `CALL a16` (R214). -/
def execCall (a16 : Word) (s : State) : Out := outcome do
  let next ← nextPc 3 s
  callTo a16 next s

/-- `CNZ a16` (R215). -/
def execCnz (a16 : Word) (s : State) : Out := callOn .nz a16 s

/-- `CZ a16` (R215). -/
def execCz (a16 : Word) (s : State) : Out := callOn .z a16 s

/-- `CNC a16` (R215). -/
def execCnc (a16 : Word) (s : State) : Out := callOn .nc a16 s

/-- `CC a16` (R215). -/
def execCc (a16 : Word) (s : State) : Out := callOn .c a16 s

/-- `CPO a16` (R215). -/
def execCpo (a16 : Word) (s : State) : Out := callOn .po a16 s

/-- `CPE a16` (R215). -/
def execCpe (a16 : Word) (s : State) : Out := callOn .pe a16 s

/-- `CP a16` (R215). -/
def execCp (a16 : Word) (s : State) : Out := callOn .p a16 s

/-- `CM a16` (R215). -/
def execCm (a16 : Word) (s : State) : Out := callOn .m a16 s

/-- `RET` (R216). -/
def execRet (s : State) : Out := outcome do
  let _ ← nextPc 1 s
  returnTo s

/-- `RNZ` (R217). -/
def execRnz (s : State) : Out := returnOn .nz s

/-- `RZ` (R217). -/
def execRz (s : State) : Out := returnOn .z s

/-- `RNC` (R217). -/
def execRnc (s : State) : Out := returnOn .nc s

/-- `RC` (R217). -/
def execRc (s : State) : Out := returnOn .c s

/-- `RPO` (R217). -/
def execRpo (s : State) : Out := returnOn .po s

/-- `RPE` (R217). -/
def execRpe (s : State) : Out := returnOn .pe s

/-- `RP` (R217). -/
def execRp (s : State) : Out := returnOn .p s

/-- `RM` (R217). -/
def execRm (s : State) : Out := returnOn .m s

/-- `RST 0` (R218). -/
def execRst0 (s : State) : Out := restart 0 s

/-- `RST 1` (R218). -/
def execRst1 (s : State) : Out := restart 1 s

/-- `RST 2` (R218). -/
def execRst2 (s : State) : Out := restart 2 s

/-- `RST 3` (R218). -/
def execRst3 (s : State) : Out := restart 3 s

/-- `RST 4` (R218). -/
def execRst4 (s : State) : Out := restart 4 s

/-- `RST 5` (R218). -/
def execRst5 (s : State) : Out := restart 5 s

/-- `RST 6` (R218). -/
def execRst6 (s : State) : Out := restart 6 s

/-- `RST 7` (R218). -/
def execRst7 (s : State) : Out := restart 7 s

end Sys2Proof.Machine
end

