-- ==== Sys2Proof/Machine/DataTransfer.lean ====
section
/-! DEFINITION. Data transfer (40_data_transfer.md). No instruction of this file writes a flag. -/

namespace Sys2Proof.Machine

/-- `MOV d,s` (R120). -/
def movReg (dst src : Reg) (s : State) : Out := complete 1 s (s.setReg dst (s.reg src))

/-- `MOV d,M` (R121): the byte is read at the old HL. -/
def movFromM (dst : Reg) (s : State) : Out := complete 1 s (s.setReg dst s.m)

/-- `MOV M,s` (R122). -/
def movToM (src : Reg) (s : State) : Out := complete 1 s (s.setM (s.reg src))

/-- `MVI d,d8` (R123). -/
def mviReg (dst : Reg) (v : Byte) (s : State) : Out := complete 2 s (s.setReg dst v)

/-- `LXI p,d16` (R125). -/
def lxiPair (pair : Pair) (v : Word) (s : State) : Out := complete 3 s (s.setPair pair v)

/-- `A <- MemRead(addr, 1)` in an instruction of `len` bytes (R126, R130). -/
def loadA (len : Nat) (addr : Word) (s : State) : Out := complete len s (s.setReg .a (s.readByte addr))

/-- `MemWrite(addr, 1, A)` in an instruction of `len` bytes (R127, R131). -/
def storeA (len : Nat) (addr : Word) (s : State) : Out := complete len s (s.writeByte addr s.a)

/-- `MOV B,B` (R120). -/
def execMovBB (s : State) : Out := movReg .b .b s

/-- `MOV B,C` (R120). -/
def execMovBC (s : State) : Out := movReg .b .c s

/-- `MOV B,D` (R120). -/
def execMovBD (s : State) : Out := movReg .b .d s

/-- `MOV B,E` (R120). -/
def execMovBE (s : State) : Out := movReg .b .e s

/-- `MOV B,H` (R120). -/
def execMovBH (s : State) : Out := movReg .b .h s

/-- `MOV B,L` (R120). -/
def execMovBL (s : State) : Out := movReg .b .l s

/-- `MOV B,A` (R120). -/
def execMovBA (s : State) : Out := movReg .b .a s

/-- `MOV C,B` (R120). -/
def execMovCB (s : State) : Out := movReg .c .b s

/-- `MOV C,C` (R120). -/
def execMovCC (s : State) : Out := movReg .c .c s

/-- `MOV C,D` (R120). -/
def execMovCD (s : State) : Out := movReg .c .d s

/-- `MOV C,E` (R120). -/
def execMovCE (s : State) : Out := movReg .c .e s

/-- `MOV C,H` (R120). -/
def execMovCH (s : State) : Out := movReg .c .h s

/-- `MOV C,L` (R120). -/
def execMovCL (s : State) : Out := movReg .c .l s

/-- `MOV C,A` (R120). -/
def execMovCA (s : State) : Out := movReg .c .a s

/-- `MOV D,B` (R120). -/
def execMovDB (s : State) : Out := movReg .d .b s

/-- `MOV D,C` (R120). -/
def execMovDC (s : State) : Out := movReg .d .c s

/-- `MOV D,D` (R120). -/
def execMovDD (s : State) : Out := movReg .d .d s

/-- `MOV D,E` (R120). -/
def execMovDE (s : State) : Out := movReg .d .e s

/-- `MOV D,H` (R120). -/
def execMovDH (s : State) : Out := movReg .d .h s

/-- `MOV D,L` (R120). -/
def execMovDL (s : State) : Out := movReg .d .l s

/-- `MOV D,A` (R120). -/
def execMovDA (s : State) : Out := movReg .d .a s

/-- `MOV E,B` (R120). -/
def execMovEB (s : State) : Out := movReg .e .b s

/-- `MOV E,C` (R120). -/
def execMovEC (s : State) : Out := movReg .e .c s

/-- `MOV E,D` (R120). -/
def execMovED (s : State) : Out := movReg .e .d s

/-- `MOV E,E` (R120). -/
def execMovEE (s : State) : Out := movReg .e .e s

/-- `MOV E,H` (R120). -/
def execMovEH (s : State) : Out := movReg .e .h s

/-- `MOV E,L` (R120). -/
def execMovEL (s : State) : Out := movReg .e .l s

/-- `MOV E,A` (R120). -/
def execMovEA (s : State) : Out := movReg .e .a s

/-- `MOV H,B` (R120). -/
def execMovHB (s : State) : Out := movReg .h .b s

/-- `MOV H,C` (R120). -/
def execMovHC (s : State) : Out := movReg .h .c s

/-- `MOV H,D` (R120). -/
def execMovHD (s : State) : Out := movReg .h .d s

/-- `MOV H,E` (R120). -/
def execMovHE (s : State) : Out := movReg .h .e s

/-- `MOV H,H` (R120). -/
def execMovHH (s : State) : Out := movReg .h .h s

/-- `MOV H,L` (R120). -/
def execMovHL (s : State) : Out := movReg .h .l s

/-- `MOV H,A` (R120). -/
def execMovHA (s : State) : Out := movReg .h .a s

/-- `MOV L,B` (R120). -/
def execMovLB (s : State) : Out := movReg .l .b s

/-- `MOV L,C` (R120). -/
def execMovLC (s : State) : Out := movReg .l .c s

/-- `MOV L,D` (R120). -/
def execMovLD (s : State) : Out := movReg .l .d s

/-- `MOV L,E` (R120). -/
def execMovLE (s : State) : Out := movReg .l .e s

/-- `MOV L,H` (R120). -/
def execMovLH (s : State) : Out := movReg .l .h s

/-- `MOV L,L` (R120). -/
def execMovLL (s : State) : Out := movReg .l .l s

/-- `MOV L,A` (R120). -/
def execMovLA (s : State) : Out := movReg .l .a s

/-- `MOV A,B` (R120). -/
def execMovAB (s : State) : Out := movReg .a .b s

/-- `MOV A,C` (R120). -/
def execMovAC (s : State) : Out := movReg .a .c s

/-- `MOV A,D` (R120). -/
def execMovAD (s : State) : Out := movReg .a .d s

/-- `MOV A,E` (R120). -/
def execMovAE (s : State) : Out := movReg .a .e s

/-- `MOV A,H` (R120). -/
def execMovAH (s : State) : Out := movReg .a .h s

/-- `MOV A,L` (R120). -/
def execMovAL (s : State) : Out := movReg .a .l s

/-- `MOV A,A` (R120). -/
def execMovAA (s : State) : Out := movReg .a .a s

/-- `MOV B,M` (R121). -/
def execMovBM (s : State) : Out := movFromM .b s

/-- `MOV C,M` (R121). -/
def execMovCM (s : State) : Out := movFromM .c s

/-- `MOV D,M` (R121). -/
def execMovDM (s : State) : Out := movFromM .d s

/-- `MOV E,M` (R121). -/
def execMovEM (s : State) : Out := movFromM .e s

/-- `MOV H,M` (R121). -/
def execMovHM (s : State) : Out := movFromM .h s

/-- `MOV L,M` (R121). -/
def execMovLM (s : State) : Out := movFromM .l s

/-- `MOV A,M` (R121). -/
def execMovAM (s : State) : Out := movFromM .a s

/-- `MOV M,B` (R122). -/
def execMovMB (s : State) : Out := movToM .b s

/-- `MOV M,C` (R122). -/
def execMovMC (s : State) : Out := movToM .c s

/-- `MOV M,D` (R122). -/
def execMovMD (s : State) : Out := movToM .d s

/-- `MOV M,E` (R122). -/
def execMovME (s : State) : Out := movToM .e s

/-- `MOV M,H` (R122). -/
def execMovMH (s : State) : Out := movToM .h s

/-- `MOV M,L` (R122). -/
def execMovML (s : State) : Out := movToM .l s

/-- `MOV M,A` (R122). -/
def execMovMA (s : State) : Out := movToM .a s

/-- `MVI B,d8` (R123). -/
def execMviB (d8 : Byte) (s : State) : Out := mviReg .b d8 s

/-- `MVI C,d8` (R123). -/
def execMviC (d8 : Byte) (s : State) : Out := mviReg .c d8 s

/-- `MVI D,d8` (R123). -/
def execMviD (d8 : Byte) (s : State) : Out := mviReg .d d8 s

/-- `MVI E,d8` (R123). -/
def execMviE (d8 : Byte) (s : State) : Out := mviReg .e d8 s

/-- `MVI H,d8` (R123). -/
def execMviH (d8 : Byte) (s : State) : Out := mviReg .h d8 s

/-- `MVI L,d8` (R123). -/
def execMviL (d8 : Byte) (s : State) : Out := mviReg .l d8 s

/-- `MVI A,d8` (R123). -/
def execMviA (d8 : Byte) (s : State) : Out := mviReg .a d8 s

/-- `MVI M,d8` (R124). -/
def execMviM (d8 : Byte) (s : State) : Out := complete 2 s (s.setM d8)

/-- `LXI B,d16` (R125). -/
def execLxiB (d16 : Word) (s : State) : Out := lxiPair .bc d16 s

/-- `LXI D,d16` (R125). -/
def execLxiD (d16 : Word) (s : State) : Out := lxiPair .de d16 s

/-- `LXI H,d16` (R125). -/
def execLxiH (d16 : Word) (s : State) : Out := lxiPair .hl d16 s

/-- `LXI SP,d16` (R125). -/
def execLxiSp (d16 : Word) (s : State) : Out := lxiPair .sp d16 s

/-- `LDA a16` (R126). -/
def execLda (a16 : Word) (s : State) : Out := loadA 3 a16 s

/-- `STA a16` (R127). -/
def execSta (a16 : Word) (s : State) : Out := storeA 3 a16 s

/-- `LHLD a16` (R128). -/
def execLhld (a16 : Word) (s : State) : Out := outcome do
  let next ← nextPc 3 s
  let v ← readWord s.pc s a16
  return (s.setPair .hl v).setPc next

/-- `SHLD a16` (R129). -/
def execShld (a16 : Word) (s : State) : Out := outcome do
  let next ← nextPc 3 s
  let t ← writeWord s.pc s a16 s.hl
  return t.setPc next

/-- `LDAX B` (R130). -/
def execLdaxB (s : State) : Out := loadA 1 (s.pair .bc) s

/-- `LDAX D` (R130). -/
def execLdaxD (s : State) : Out := loadA 1 (s.pair .de) s

/-- `STAX B` (R131). -/
def execStaxB (s : State) : Out := storeA 1 (s.pair .bc) s

/-- `STAX D` (R131). -/
def execStaxD (s : State) : Out := storeA 1 (s.pair .de) s

/-- `XCHG` (R132). -/
def execXchg (s : State) : Out := complete 1 s ((s.setPair .hl (s.pair .de)).setPair .de (s.pair .hl))

end Sys2Proof.Machine
end

