-- ==== Sys2Proof/Machine/Logical.lean ====
section
/-! DEFINITION. Logical, compare, rotate and carry instructions (42_logical.md). -/

namespace Sys2Proof.Machine

/-- ANA and its forms (R180 to R182): AC is bit 3 of the OR of the operands. -/
def andA (len : Nat) (v : Byte) (s : State) : Out :=
  complete len s ((s.setReg .a (s.a &&& v)).setFlags (flagsOf (s.a &&& v) ((s.a ||| v).getLsbD 3) false))

/-- A result whose AC and CY are cleared (R183 to R188). -/
def logicA (len : Nat) (r : Byte) (s : State) : Out :=
  complete len s ((s.setReg .a r).setFlags (flagsOf r false false))

/-- XRA and its forms (R183 to R185). -/
def xorA (len : Nat) (v : Byte) (s : State) : Out := logicA len (s.a ^^^ v) s

/-- ORA and its forms (R186 to R188). -/
def orA (len : Nat) (v : Byte) (s : State) : Out := logicA len (s.a ||| v) s

/-- CMP and its forms (R189 to R191): the flags of the subtraction, A kept. -/
def compareA (len : Nat) (v : Byte) (s : State) : Out :=
  complete len s (s.setFlags (flagsOf (sub8 s.a v false).r (sub8 s.a v false).ac (sub8 s.a v false).cy))

/-- A rotate writes A and CY alone (R192 to R195). -/
def rotateA (result : Byte × Bool) (s : State) : Out := complete 1 s ((s.setReg .a result.1).setCy result.2)

/-- `ANA B` (R180). -/
def execAnaB (s : State) : Out := andA 1 (s.reg .b) s

/-- `ANA C` (R180). -/
def execAnaC (s : State) : Out := andA 1 (s.reg .c) s

/-- `ANA D` (R180). -/
def execAnaD (s : State) : Out := andA 1 (s.reg .d) s

/-- `ANA E` (R180). -/
def execAnaE (s : State) : Out := andA 1 (s.reg .e) s

/-- `ANA H` (R180). -/
def execAnaH (s : State) : Out := andA 1 (s.reg .h) s

/-- `ANA L` (R180). -/
def execAnaL (s : State) : Out := andA 1 (s.reg .l) s

/-- `ANA A` (R180). -/
def execAnaA (s : State) : Out := andA 1 (s.reg .a) s

/-- `ANA M` (R181). -/
def execAnaM (s : State) : Out := andA 1 s.m s

/-- `ANI d8` (R182). -/
def execAni (d8 : Byte) (s : State) : Out := andA 2 d8 s

/-- `XRA B` (R183). -/
def execXraB (s : State) : Out := xorA 1 (s.reg .b) s

/-- `XRA C` (R183). -/
def execXraC (s : State) : Out := xorA 1 (s.reg .c) s

/-- `XRA D` (R183). -/
def execXraD (s : State) : Out := xorA 1 (s.reg .d) s

/-- `XRA E` (R183). -/
def execXraE (s : State) : Out := xorA 1 (s.reg .e) s

/-- `XRA H` (R183). -/
def execXraH (s : State) : Out := xorA 1 (s.reg .h) s

/-- `XRA L` (R183). -/
def execXraL (s : State) : Out := xorA 1 (s.reg .l) s

/-- `XRA A` (R183). -/
def execXraA (s : State) : Out := xorA 1 (s.reg .a) s

/-- `XRA M` (R184). -/
def execXraM (s : State) : Out := xorA 1 s.m s

/-- `XRI d8` (R185). -/
def execXri (d8 : Byte) (s : State) : Out := xorA 2 d8 s

/-- `ORA B` (R186). -/
def execOraB (s : State) : Out := orA 1 (s.reg .b) s

/-- `ORA C` (R186). -/
def execOraC (s : State) : Out := orA 1 (s.reg .c) s

/-- `ORA D` (R186). -/
def execOraD (s : State) : Out := orA 1 (s.reg .d) s

/-- `ORA E` (R186). -/
def execOraE (s : State) : Out := orA 1 (s.reg .e) s

/-- `ORA H` (R186). -/
def execOraH (s : State) : Out := orA 1 (s.reg .h) s

/-- `ORA L` (R186). -/
def execOraL (s : State) : Out := orA 1 (s.reg .l) s

/-- `ORA A` (R186). -/
def execOraA (s : State) : Out := orA 1 (s.reg .a) s

/-- `ORA M` (R187). -/
def execOraM (s : State) : Out := orA 1 s.m s

/-- `ORI d8` (R188). -/
def execOri (d8 : Byte) (s : State) : Out := orA 2 d8 s

/-- `CMP B` (R189). -/
def execCmpB (s : State) : Out := compareA 1 (s.reg .b) s

/-- `CMP C` (R189). -/
def execCmpC (s : State) : Out := compareA 1 (s.reg .c) s

/-- `CMP D` (R189). -/
def execCmpD (s : State) : Out := compareA 1 (s.reg .d) s

/-- `CMP E` (R189). -/
def execCmpE (s : State) : Out := compareA 1 (s.reg .e) s

/-- `CMP H` (R189). -/
def execCmpH (s : State) : Out := compareA 1 (s.reg .h) s

/-- `CMP L` (R189). -/
def execCmpL (s : State) : Out := compareA 1 (s.reg .l) s

/-- `CMP A` (R189). -/
def execCmpA (s : State) : Out := compareA 1 (s.reg .a) s

/-- `CMP M` (R190). -/
def execCmpM (s : State) : Out := compareA 1 s.m s

/-- `CPI d8` (R191). -/
def execCpi (d8 : Byte) (s : State) : Out := compareA 2 d8 s

/-- `RLC` (R192). -/
def execRlc (s : State) : Out := rotateA (rotLeft s.a) s

/-- `RRC` (R193). -/
def execRrc (s : State) : Out := rotateA (rotRight s.a) s

/-- `RAL` (R194). -/
def execRal (s : State) : Out := rotateA (rotLeftCy s.a s.flags.cy) s

/-- `RAR` (R195). -/
def execRar (s : State) : Out := rotateA (rotRightCy s.a s.flags.cy) s

/-- `CMA` (R196). -/
def execCma (s : State) : Out := complete 1 s (s.setReg .a (~~~s.a))

/-- `CMC` (R197). -/
def execCmc (s : State) : Out := complete 1 s (s.setCy (!s.flags.cy))

/-- `STC` (R198). -/
def execStc (s : State) : Out := complete 1 s (s.setCy true)

end Sys2Proof.Machine
end

