-- ==== Sys2Proof/Machine/StackIo.lean ====
section
/-! DEFINITION. Stack, port I/O and machine control (44_stack_io_control.md). -/

namespace Sys2Proof.Machine

/-- Pushes a value (R230, R231). -/
def pushValue (v : Word) (s : State) : Out := outcome do
  let next ← nextPc 1 s
  let t ← push16 s.pc s v
  return t.setPc next

/-- `POP p` (R232). -/
def popPair (pair : Pair) (s : State) : Out := outcome do
  let next ← nextPc 1 s
  let (v, t) ← pop16 s.pc s
  return (t.setPair pair v).setPc next

/-- `PUSH B` (R230). -/
def execPushB (s : State) : Out := pushValue (s.pair .bc) s

/-- `PUSH D` (R230). -/
def execPushD (s : State) : Out := pushValue (s.pair .de) s

/-- `PUSH H` (R230). -/
def execPushH (s : State) : Out := pushValue (s.pair .hl) s

/-- `PUSH PSW` (R231). -/
def execPushPsw (s : State) : Out := pushValue (wordOf s.a s.flags.pack) s

/-- `POP B` (R232). -/
def execPopB (s : State) : Out := popPair .bc s

/-- `POP D` (R232). -/
def execPopD (s : State) : Out := popPair .de s

/-- `POP H` (R232). -/
def execPopH (s : State) : Out := popPair .hl s

/-- `POP PSW` (R233). -/
def execPopPsw (s : State) : Out := outcome do
  let next ← nextPc 1 s
  let (v, t) ← pop16 s.pc s
  return ((t.setReg .a (hiByte v)).setFlags (Flags.unpack (loByte v))).setPc next

/-- `XTHL` (R234). -/
def execXthl (s : State) : Out := outcome do
  let next ← nextPc 1 s
  let v ← readWord s.pc s s.sp
  let t ← writeWord s.pc s s.sp s.hl
  return (t.setPair .hl v).setPc next

/-- `SPHL` (R235). -/
def execSphl (s : State) : Out := complete 1 s (s.setSp s.hl)

/-- `IN d8` (R236). -/
def execInPort (d8 : Byte) (s : State) : Out := outcome do
  let next ← nextPc 2 s
  let (v, t) ← portIn s.pc s d8
  return (t.setReg .a v).setPc next

/-- `OUT d8` (R238). -/
def execOutPort (d8 : Byte) (s : State) : Out := outcome do
  let next ← nextPc 2 s
  let t ← portOut s.pc s d8 s.a
  return t.setPc next

/-- `EI` (R240). -/
def execEi (s : State) : Out := outcome do
  let next ← nextPc 1 s
  let t := { s with ie := true, pc := next }
  if s.pend.getLsbD 7 then enterInterrupt s.pc (s.pend &&& 0x7F) { t with pend := 0 } else return t

/-- `DI` (R241). -/
def execDi (s : State) : Out := complete 1 s { s with ie := false }

/-- `NOP` (R242). -/
def execNop (s : State) : Out := complete 1 s s

/-- `HLT` (R248). -/
def execHlt (s : State) : Out := complete 1 s { s with halt := true }

end Sys2Proof.Machine
end

