-- ==== Sys2Proof/Machine/Undocumented.lean ====
section
/-! DEFINITION. The 12 undocumented slots (45_undocumented.md). -/

namespace Sys2Proof.Machine

/-- The fallback (R260): PC advances by one byte and nothing else changes; the diagnostic of R261 goes to the trace. -/
def fallback (op : Byte) (s : State) : Out := complete 1 s (s.emit (.undocumented s.pc op))

/-- `UNDOC 0x08` (R260). -/
def execUndoc08 (s : State) : Out := fallback 0x08 s

/-- `UNDOC 0x10` (R260). -/
def execUndoc10 (s : State) : Out := fallback 0x10 s

/-- `UNDOC 0x18` (R260). -/
def execUndoc18 (s : State) : Out := fallback 0x18 s

/-- `UNDOC 0x20` (R260). -/
def execUndoc20 (s : State) : Out := fallback 0x20 s

/-- `UNDOC 0x28` (R260). -/
def execUndoc28 (s : State) : Out := fallback 0x28 s

/-- `UNDOC 0x30` (R260). -/
def execUndoc30 (s : State) : Out := fallback 0x30 s

/-- `UNDOC 0x38` (R260). -/
def execUndoc38 (s : State) : Out := fallback 0x38 s

/-- `UNDOC 0xCB` (R260). -/
def execUndocCB (s : State) : Out := fallback 0xCB s

/-- `UNDOC 0xD9` (R260). -/
def execUndocD9 (s : State) : Out := fallback 0xD9 s

/-- `UNDOC 0xDD` (R260). -/
def execUndocDD (s : State) : Out := fallback 0xDD s

/-- `UNDOC 0xED` (R260). -/
def execUndocED (s : State) : Out := fallback 0xED s

/-- `UNDOC 0xFD` (R260). -/
def execUndocFD (s : State) : Out := fallback 0xFD s

end Sys2Proof.Machine
end

