-- ==== Sys2Proof/WellFormed.lean ====
section
/-! DEFINITION. Well-formedness. An instruction carries only 8-bit and 16-bit operands, and 30_encoding.md R92 and R102
admit every value of them, so an instruction needs no check; the checks are those on a host operation's arguments. -/

namespace Sys2Proof

/-- 30_encoding.md R102: no field of a documented encoding is reserved, so every `Instr` can be encoded. -/
def Instr.wellFormed (_ : Instr) : Bool := true

/-- `raiseInterrupt(id)` is defined for ids 0 to 7 (60_exceptions.md R271, R281). -/
def vectorIdOk (id : Nat) : Bool := decide (id < 8)

/-- A positive cycle budget, the precondition of `update` (70_reset_and_hazards.md R320, R321). -/
def budgetOk (n : Int) : Bool := decide (0 < n)

/-- An image of `n` bytes at `address` lies inside the 65536 bytes of memory (20_memory.md R75). -/
def imageFits (address : Word) (n : Nat) : Bool := decide (address.toNat + n ≤ 65536)

end Sys2Proof
end

