-- ==== Sys2Proof/Decode.lean ====
section
/-! DEFINITION. The decoder, written from the opcode map of 30_encoding.md R99, and after it the encoder, written from
the bit patterns of spec/opcode_table.json. -/

namespace Sys2Proof

/-- Why a list of bytes holds no whole instruction. No opcode byte is rejected (30_encoding.md R101). -/
inductive DecodeError where
  /-- The list is empty. -/
  | noOpcode
  /-- The list ends before the operand bytes of `op`. -/
  | operandMissing (op : Byte)
  deriving DecidableEq, Repr

/-- Row 0x of the opcode map. -/
def opcodeRow0 (d8 : Byte) (d16 : Word) : List Instr :=
  [.nop, .lxiB d16, .staxB, .inxB, .inrB, .dcrB, .mviB d8, .rlc, .undoc08, .dadB, .ldaxB, .dcxB, .inrC, .dcrC,
   .mviC d8, .rrc]

/-- Row 1x of the opcode map. -/
def opcodeRow1 (d8 : Byte) (d16 : Word) : List Instr :=
  [.undoc10, .lxiD d16, .staxD, .inxD, .inrD, .dcrD, .mviD d8, .ral, .undoc18, .dadD, .ldaxD, .dcxD, .inrE,
   .dcrE, .mviE d8, .rar]

/-- Row 2x of the opcode map. -/
def opcodeRow2 (d8 : Byte) (d16 : Word) : List Instr :=
  [.undoc20, .lxiH d16, .shld d16, .inxH, .inrH, .dcrH, .mviH d8, .daa, .undoc28, .dadH, .lhld d16, .dcxH,
   .inrL, .dcrL, .mviL d8, .cma]

/-- Row 3x of the opcode map. -/
def opcodeRow3 (d8 : Byte) (d16 : Word) : List Instr :=
  [.undoc30, .lxiSp d16, .sta d16, .inxSp, .inrM, .dcrM, .mviM d8, .stc, .undoc38, .dadSp, .lda d16, .dcxSp,
   .inrA, .dcrA, .mviA d8, .cmc]

/-- Row 4x of the opcode map. -/
def opcodeRow4 (_ : Byte) (_ : Word) : List Instr :=
  [.movBB, .movBC, .movBD, .movBE, .movBH, .movBL, .movBM, .movBA, .movCB, .movCC, .movCD, .movCE, .movCH,
   .movCL, .movCM, .movCA]

/-- Row 5x of the opcode map. -/
def opcodeRow5 (_ : Byte) (_ : Word) : List Instr :=
  [.movDB, .movDC, .movDD, .movDE, .movDH, .movDL, .movDM, .movDA, .movEB, .movEC, .movED, .movEE, .movEH,
   .movEL, .movEM, .movEA]

/-- Row 6x of the opcode map. -/
def opcodeRow6 (_ : Byte) (_ : Word) : List Instr :=
  [.movHB, .movHC, .movHD, .movHE, .movHH, .movHL, .movHM, .movHA, .movLB, .movLC, .movLD, .movLE, .movLH,
   .movLL, .movLM, .movLA]

/-- Row 7x of the opcode map. -/
def opcodeRow7 (_ : Byte) (_ : Word) : List Instr :=
  [.movMB, .movMC, .movMD, .movME, .movMH, .movML, .hlt, .movMA, .movAB, .movAC, .movAD, .movAE, .movAH,
   .movAL, .movAM, .movAA]

/-- Row 8x of the opcode map. -/
def opcodeRow8 (_ : Byte) (_ : Word) : List Instr :=
  [.addB, .addC, .addD, .addE, .addH, .addL, .addM, .addA, .adcB, .adcC, .adcD, .adcE, .adcH, .adcL, .adcM,
   .adcA]

/-- Row 9x of the opcode map. -/
def opcodeRow9 (_ : Byte) (_ : Word) : List Instr :=
  [.subB, .subC, .subD, .subE, .subH, .subL, .subM, .subA, .sbbB, .sbbC, .sbbD, .sbbE, .sbbH, .sbbL, .sbbM,
   .sbbA]

/-- Row Ax of the opcode map. -/
def opcodeRowA (_ : Byte) (_ : Word) : List Instr :=
  [.anaB, .anaC, .anaD, .anaE, .anaH, .anaL, .anaM, .anaA, .xraB, .xraC, .xraD, .xraE, .xraH, .xraL, .xraM,
   .xraA]

/-- Row Bx of the opcode map. -/
def opcodeRowB (_ : Byte) (_ : Word) : List Instr :=
  [.oraB, .oraC, .oraD, .oraE, .oraH, .oraL, .oraM, .oraA, .cmpB, .cmpC, .cmpD, .cmpE, .cmpH, .cmpL, .cmpM,
   .cmpA]

/-- Row Cx of the opcode map. -/
def opcodeRowC (d8 : Byte) (d16 : Word) : List Instr :=
  [.rnz, .popB, .jnz d16, .jmp d16, .cnz d16, .pushB, .adi d8, .rst0, .rz, .ret, .jz d16, .undocCB, .cz d16,
   .call d16, .aci d8, .rst1]

/-- Row Dx of the opcode map. -/
def opcodeRowD (d8 : Byte) (d16 : Word) : List Instr :=
  [.rnc, .popD, .jnc d16, .outPort d8, .cnc d16, .pushD, .sui d8, .rst2, .rc, .undocD9, .jc d16, .inPort d8,
   .cc d16, .undocDD, .sbi d8, .rst3]

/-- Row Ex of the opcode map. -/
def opcodeRowE (d8 : Byte) (d16 : Word) : List Instr :=
  [.rpo, .popH, .jpo d16, .xthl, .cpo d16, .pushH, .ani d8, .rst4, .rpe, .pchl, .jpe d16, .xchg, .cpe d16,
   .undocED, .xri d8, .rst5]

/-- Row Fx of the opcode map. -/
def opcodeRowF (d8 : Byte) (d16 : Word) : List Instr :=
  [.rp, .popPsw, .jp d16, .di, .cp d16, .pushPsw, .ori d8, .rst6, .rm, .sphl, .jm d16, .ei, .cm d16, .undocFD,
   .cpi d8, .rst7]

/-- The opcode map, row = high nibble (30_encoding.md R99). -/
def opcodeMap (d8 : Byte) (d16 : Word) : List (List Instr) :=
  [opcodeRow0 d8 d16, opcodeRow1 d8 d16, opcodeRow2 d8 d16, opcodeRow3 d8 d16,
   opcodeRow4 d8 d16, opcodeRow5 d8 d16, opcodeRow6 d8 d16, opcodeRow7 d8 d16,
   opcodeRow8 d8 d16, opcodeRow9 d8 d16, opcodeRowA d8 d16, opcodeRowB d8 d16,
   opcodeRowC d8 d16, opcodeRowD d8 d16, opcodeRowE d8 d16, opcodeRowF d8 d16]

/-- The instruction of an opcode byte with the operands given; the operands it does not take are ignored. The map has an
entry for each of the 256 bytes, so the default of the lookup is never used. -/
def instrOf (op d8 : Byte) (d16 : Word) : Instr :=
  ((opcodeMap d8 d16).getD (op.toNat / 16) []).getD (op.toNat % 16) .nop

/-- The lengths of the instructions, row = high nibble (30_encoding.md R90, R91). -/
def lengthRows : List (List Nat) := [
  [1, 3, 1, 1, 1, 1, 2, 1, 1, 1, 1, 1, 1, 1, 2, 1],
  [1, 3, 1, 1, 1, 1, 2, 1, 1, 1, 1, 1, 1, 1, 2, 1],
  [1, 3, 3, 1, 1, 1, 2, 1, 1, 1, 3, 1, 1, 1, 2, 1],
  [1, 3, 3, 1, 1, 1, 2, 1, 1, 1, 3, 1, 1, 1, 2, 1],
  [1, 1, 1, 1, 1, 1, 1, 1, 1, 1, 1, 1, 1, 1, 1, 1],
  [1, 1, 1, 1, 1, 1, 1, 1, 1, 1, 1, 1, 1, 1, 1, 1],
  [1, 1, 1, 1, 1, 1, 1, 1, 1, 1, 1, 1, 1, 1, 1, 1],
  [1, 1, 1, 1, 1, 1, 1, 1, 1, 1, 1, 1, 1, 1, 1, 1],
  [1, 1, 1, 1, 1, 1, 1, 1, 1, 1, 1, 1, 1, 1, 1, 1],
  [1, 1, 1, 1, 1, 1, 1, 1, 1, 1, 1, 1, 1, 1, 1, 1],
  [1, 1, 1, 1, 1, 1, 1, 1, 1, 1, 1, 1, 1, 1, 1, 1],
  [1, 1, 1, 1, 1, 1, 1, 1, 1, 1, 1, 1, 1, 1, 1, 1],
  [1, 1, 3, 3, 3, 1, 2, 1, 1, 1, 3, 1, 3, 3, 2, 1],
  [1, 1, 3, 2, 3, 1, 2, 1, 1, 1, 3, 2, 3, 1, 2, 1],
  [1, 1, 3, 1, 3, 1, 2, 1, 1, 1, 3, 1, 3, 1, 2, 1],
  [1, 1, 3, 1, 3, 1, 2, 1, 1, 1, 3, 1, 3, 1, 2, 1]]

/-- The length of the instruction that starts with `op`, a function of that byte alone (30_encoding.md R91). -/
def lengthOf (op : Byte) : Nat := Machine.nibbleTable lengthRows op

/-- Reads one instruction from the front of a list of bytes and gives the rest of the list. -/
def decode : List Byte → Except DecodeError (Instr × List Byte)
  | [] => .error .noOpcode
  | op :: rest =>
    match lengthOf op, rest with
    | 1, rest => .ok (instrOf op 0 0, rest)
    | 2, d8 :: rest => .ok (instrOf op d8 0, rest)
    | 3, lo :: hi :: rest => .ok (instrOf op 0 (wordOf hi lo), rest)
    | _, _ => .error (.operandMissing op)

/-- The bytes of an instruction: the opcode of its table row, then its operand, low byte first (30_encoding.md R92). -/
def encode : Instr → List Byte
  | .nop => [0x00#8]
  | .lxiB d16 => [0x01#8, loByte d16, hiByte d16]
  | .staxB => [0x02#8]
  | .inxB => [0x03#8]
  | .inrB => [0x04#8]
  | .dcrB => [0x05#8]
  | .mviB d8 => [0x06#8, d8]
  | .rlc => [0x07#8]
  | .undoc08 => [0x08#8]
  | .dadB => [0x09#8]
  | .ldaxB => [0x0A#8]
  | .dcxB => [0x0B#8]
  | .inrC => [0x0C#8]
  | .dcrC => [0x0D#8]
  | .mviC d8 => [0x0E#8, d8]
  | .rrc => [0x0F#8]
  | .undoc10 => [0x10#8]
  | .lxiD d16 => [0x11#8, loByte d16, hiByte d16]
  | .staxD => [0x12#8]
  | .inxD => [0x13#8]
  | .inrD => [0x14#8]
  | .dcrD => [0x15#8]
  | .mviD d8 => [0x16#8, d8]
  | .ral => [0x17#8]
  | .undoc18 => [0x18#8]
  | .dadD => [0x19#8]
  | .ldaxD => [0x1A#8]
  | .dcxD => [0x1B#8]
  | .inrE => [0x1C#8]
  | .dcrE => [0x1D#8]
  | .mviE d8 => [0x1E#8, d8]
  | .rar => [0x1F#8]
  | .undoc20 => [0x20#8]
  | .lxiH d16 => [0x21#8, loByte d16, hiByte d16]
  | .shld a16 => [0x22#8, loByte a16, hiByte a16]
  | .inxH => [0x23#8]
  | .inrH => [0x24#8]
  | .dcrH => [0x25#8]
  | .mviH d8 => [0x26#8, d8]
  | .daa => [0x27#8]
  | .undoc28 => [0x28#8]
  | .dadH => [0x29#8]
  | .lhld a16 => [0x2A#8, loByte a16, hiByte a16]
  | .dcxH => [0x2B#8]
  | .inrL => [0x2C#8]
  | .dcrL => [0x2D#8]
  | .mviL d8 => [0x2E#8, d8]
  | .cma => [0x2F#8]
  | .undoc30 => [0x30#8]
  | .lxiSp d16 => [0x31#8, loByte d16, hiByte d16]
  | .sta a16 => [0x32#8, loByte a16, hiByte a16]
  | .inxSp => [0x33#8]
  | .inrM => [0x34#8]
  | .dcrM => [0x35#8]
  | .mviM d8 => [0x36#8, d8]
  | .stc => [0x37#8]
  | .undoc38 => [0x38#8]
  | .dadSp => [0x39#8]
  | .lda a16 => [0x3A#8, loByte a16, hiByte a16]
  | .dcxSp => [0x3B#8]
  | .inrA => [0x3C#8]
  | .dcrA => [0x3D#8]
  | .mviA d8 => [0x3E#8, d8]
  | .cmc => [0x3F#8]
  | .movBB => [0x40#8]
  | .movBC => [0x41#8]
  | .movBD => [0x42#8]
  | .movBE => [0x43#8]
  | .movBH => [0x44#8]
  | .movBL => [0x45#8]
  | .movBM => [0x46#8]
  | .movBA => [0x47#8]
  | .movCB => [0x48#8]
  | .movCC => [0x49#8]
  | .movCD => [0x4A#8]
  | .movCE => [0x4B#8]
  | .movCH => [0x4C#8]
  | .movCL => [0x4D#8]
  | .movCM => [0x4E#8]
  | .movCA => [0x4F#8]
  | .movDB => [0x50#8]
  | .movDC => [0x51#8]
  | .movDD => [0x52#8]
  | .movDE => [0x53#8]
  | .movDH => [0x54#8]
  | .movDL => [0x55#8]
  | .movDM => [0x56#8]
  | .movDA => [0x57#8]
  | .movEB => [0x58#8]
  | .movEC => [0x59#8]
  | .movED => [0x5A#8]
  | .movEE => [0x5B#8]
  | .movEH => [0x5C#8]
  | .movEL => [0x5D#8]
  | .movEM => [0x5E#8]
  | .movEA => [0x5F#8]
  | .movHB => [0x60#8]
  | .movHC => [0x61#8]
  | .movHD => [0x62#8]
  | .movHE => [0x63#8]
  | .movHH => [0x64#8]
  | .movHL => [0x65#8]
  | .movHM => [0x66#8]
  | .movHA => [0x67#8]
  | .movLB => [0x68#8]
  | .movLC => [0x69#8]
  | .movLD => [0x6A#8]
  | .movLE => [0x6B#8]
  | .movLH => [0x6C#8]
  | .movLL => [0x6D#8]
  | .movLM => [0x6E#8]
  | .movLA => [0x6F#8]
  | .movMB => [0x70#8]
  | .movMC => [0x71#8]
  | .movMD => [0x72#8]
  | .movME => [0x73#8]
  | .movMH => [0x74#8]
  | .movML => [0x75#8]
  | .hlt => [0x76#8]
  | .movMA => [0x77#8]
  | .movAB => [0x78#8]
  | .movAC => [0x79#8]
  | .movAD => [0x7A#8]
  | .movAE => [0x7B#8]
  | .movAH => [0x7C#8]
  | .movAL => [0x7D#8]
  | .movAM => [0x7E#8]
  | .movAA => [0x7F#8]
  | .addB => [0x80#8]
  | .addC => [0x81#8]
  | .addD => [0x82#8]
  | .addE => [0x83#8]
  | .addH => [0x84#8]
  | .addL => [0x85#8]
  | .addM => [0x86#8]
  | .addA => [0x87#8]
  | .adcB => [0x88#8]
  | .adcC => [0x89#8]
  | .adcD => [0x8A#8]
  | .adcE => [0x8B#8]
  | .adcH => [0x8C#8]
  | .adcL => [0x8D#8]
  | .adcM => [0x8E#8]
  | .adcA => [0x8F#8]
  | .subB => [0x90#8]
  | .subC => [0x91#8]
  | .subD => [0x92#8]
  | .subE => [0x93#8]
  | .subH => [0x94#8]
  | .subL => [0x95#8]
  | .subM => [0x96#8]
  | .subA => [0x97#8]
  | .sbbB => [0x98#8]
  | .sbbC => [0x99#8]
  | .sbbD => [0x9A#8]
  | .sbbE => [0x9B#8]
  | .sbbH => [0x9C#8]
  | .sbbL => [0x9D#8]
  | .sbbM => [0x9E#8]
  | .sbbA => [0x9F#8]
  | .anaB => [0xA0#8]
  | .anaC => [0xA1#8]
  | .anaD => [0xA2#8]
  | .anaE => [0xA3#8]
  | .anaH => [0xA4#8]
  | .anaL => [0xA5#8]
  | .anaM => [0xA6#8]
  | .anaA => [0xA7#8]
  | .xraB => [0xA8#8]
  | .xraC => [0xA9#8]
  | .xraD => [0xAA#8]
  | .xraE => [0xAB#8]
  | .xraH => [0xAC#8]
  | .xraL => [0xAD#8]
  | .xraM => [0xAE#8]
  | .xraA => [0xAF#8]
  | .oraB => [0xB0#8]
  | .oraC => [0xB1#8]
  | .oraD => [0xB2#8]
  | .oraE => [0xB3#8]
  | .oraH => [0xB4#8]
  | .oraL => [0xB5#8]
  | .oraM => [0xB6#8]
  | .oraA => [0xB7#8]
  | .cmpB => [0xB8#8]
  | .cmpC => [0xB9#8]
  | .cmpD => [0xBA#8]
  | .cmpE => [0xBB#8]
  | .cmpH => [0xBC#8]
  | .cmpL => [0xBD#8]
  | .cmpM => [0xBE#8]
  | .cmpA => [0xBF#8]
  | .rnz => [0xC0#8]
  | .popB => [0xC1#8]
  | .jnz a16 => [0xC2#8, loByte a16, hiByte a16]
  | .jmp a16 => [0xC3#8, loByte a16, hiByte a16]
  | .cnz a16 => [0xC4#8, loByte a16, hiByte a16]
  | .pushB => [0xC5#8]
  | .adi d8 => [0xC6#8, d8]
  | .rst0 => [0xC7#8]
  | .rz => [0xC8#8]
  | .ret => [0xC9#8]
  | .jz a16 => [0xCA#8, loByte a16, hiByte a16]
  | .undocCB => [0xCB#8]
  | .cz a16 => [0xCC#8, loByte a16, hiByte a16]
  | .call a16 => [0xCD#8, loByte a16, hiByte a16]
  | .aci d8 => [0xCE#8, d8]
  | .rst1 => [0xCF#8]
  | .rnc => [0xD0#8]
  | .popD => [0xD1#8]
  | .jnc a16 => [0xD2#8, loByte a16, hiByte a16]
  | .outPort d8 => [0xD3#8, d8]
  | .cnc a16 => [0xD4#8, loByte a16, hiByte a16]
  | .pushD => [0xD5#8]
  | .sui d8 => [0xD6#8, d8]
  | .rst2 => [0xD7#8]
  | .rc => [0xD8#8]
  | .undocD9 => [0xD9#8]
  | .jc a16 => [0xDA#8, loByte a16, hiByte a16]
  | .inPort d8 => [0xDB#8, d8]
  | .cc a16 => [0xDC#8, loByte a16, hiByte a16]
  | .undocDD => [0xDD#8]
  | .sbi d8 => [0xDE#8, d8]
  | .rst3 => [0xDF#8]
  | .rpo => [0xE0#8]
  | .popH => [0xE1#8]
  | .jpo a16 => [0xE2#8, loByte a16, hiByte a16]
  | .xthl => [0xE3#8]
  | .cpo a16 => [0xE4#8, loByte a16, hiByte a16]
  | .pushH => [0xE5#8]
  | .ani d8 => [0xE6#8, d8]
  | .rst4 => [0xE7#8]
  | .rpe => [0xE8#8]
  | .pchl => [0xE9#8]
  | .jpe a16 => [0xEA#8, loByte a16, hiByte a16]
  | .xchg => [0xEB#8]
  | .cpe a16 => [0xEC#8, loByte a16, hiByte a16]
  | .undocED => [0xED#8]
  | .xri d8 => [0xEE#8, d8]
  | .rst5 => [0xEF#8]
  | .rp => [0xF0#8]
  | .popPsw => [0xF1#8]
  | .jp a16 => [0xF2#8, loByte a16, hiByte a16]
  | .di => [0xF3#8]
  | .cp a16 => [0xF4#8, loByte a16, hiByte a16]
  | .pushPsw => [0xF5#8]
  | .ori d8 => [0xF6#8, d8]
  | .rst6 => [0xF7#8]
  | .rm => [0xF8#8]
  | .sphl => [0xF9#8]
  | .jm a16 => [0xFA#8, loByte a16, hiByte a16]
  | .ei => [0xFB#8]
  | .cm a16 => [0xFC#8, loByte a16, hiByte a16]
  | .undocFD => [0xFD#8]
  | .cpi d8 => [0xFE#8, d8]
  | .rst7 => [0xFF#8]

/-- The opcode byte of an instruction. -/
def Instr.opcode (i : Instr) : Byte := (encode i).headD 0

/-- The length of an instruction in bytes (30_encoding.md R91). -/
def Instr.length (i : Instr) : Nat := lengthOf i.opcode

/-- The bytes of a table word: byte k is bits 8k+7 to 8k, and every bit from `nbits` up is 0, to three bytes. -/
def tableWordBytes (nbits w : Nat) : List Byte :=
  let kept := w % 2 ^ nbits
  [BitVec.ofNat 8 kept, BitVec.ofNat 8 (kept / 256), BitVec.ofNat 8 (kept / 65536)]

/-- The instruction the decoder reads from a table word. -/
def decodeTableWord (nbits w : Nat) : Option Instr :=
  match decode (tableWordBytes nbits w) with
  | .ok (i, _) => some i
  | .error _ => none

end Sys2Proof
end

