-- ==== Sys2Proof/Machine/Fetch.lean ====
section
/-! DEFINITION. How a step begins and ends around its instruction: the fault record, the halted idle iteration, the fetch
of 30_encoding.md R100 and the charge of 70_reset_and_hazards.md R320. -/

namespace Sys2Proof.Machine

/-- The byte at the program counter. -/
def State.opcodeByte (s : State) : Byte := s.readByte s.pc

/-- Fetches the instruction at the program counter, operand addresses formed in order (30_encoding.md R100). -/
def fetch (s : State) : Except Fault Instr :=
  match lengthOf s.opcodeByte with
  | 1 => .ok (instrOf s.opcodeByte 0 0)
  | 2 => do
    let second ← formAddr s.pc s (s.pc.toNat + 1)
    return instrOf s.opcodeByte (s.readByte second) 0
  | _ => do
    let second ← formAddr s.pc s (s.pc.toNat + 1)
    let third ← formAddr s.pc s (s.pc.toNat + 2)
    return instrOf s.opcodeByte 0 (wordOf (s.readByte third) (s.readByte second))

/-- What a step does before its instruction runs. -/
inductive Begun where
  /-- No instruction runs: a fault. -/
  | stopped (f : Fault)
  /-- No instruction runs: the idle iteration of a halted core, already charged. -/
  | idled (t : State)
  /-- The instruction fetched, and the state with LASTOP written. -/
  | fetched (i : Instr) (t : State)
  deriving DecidableEq, Repr

/-- The beginning of a step: a faulted machine takes none (00_scope.md R12), a halted one idles
(44_stack_io_control.md R249), any other fetches and writes LASTOP (30_encoding.md R100). -/
def startStep (s : State) : Begun :=
  match s.faultRec with
  | some f => .stopped f
  | none =>
    if s.halt then .idled (s.charge s.params.idleCost)
    else
      match fetch s with
      | .ok i => .fetched i { s with lastop := s.opcodeByte }
      | .error f => .stopped f

/-- The end of a step that began in `s`: the cost of its opcode byte is charged (70_reset_and_hazards.md R320). -/
def retire (s t : State) : State := t.charge (s.params.cycleCost s.lastop)

/-- Stores the bytes of a table word from `addr` up. -/
def placeBytes (s : State) (addr : Word) : List Byte → State
  | [] => s
  | v :: rest => placeBytes (s.writeByte addr v) (addr + 1) rest

end Sys2Proof.Machine
end

