-- ==== Sys2Proof/Machine/Step.lean ====
section
/-! DEFINITION. One step: one iteration of the execution loop of 70_reset_and_hazards.md R320. -/

namespace Sys2Proof.Machine

/-- One core step with its charge: the instruction at PC, or one halted idle iteration (00_scope.md R5). -/
def step (s : State) : Host.Outcome State Fault Refusal :=
  match startStep s with
  | .stopped f => .fault f
  | .idled t => .next t
  | .fetched i t =>
    match exec i t with
    | .next u => .next (retire t u)
    | .fault f => .fault f
    | .refused r => .refused r

/-- `s` with the instruction of a table word at its program counter, ready to be fetched: not halted and not faulted
(log entry 8). -/
def State.withFetchWord (s : State) (nbits w : Nat) : State :=
  { placeBytes s s.pc (tableWordBytes nbits w) with halt := false, faultRec := none }

end Sys2Proof.Machine
end

