-- ==== Sys2Proof/Machine/Forms.lean ====
section
/-! DEFINITION. The instruction forms of the specification's rules (`MOV d,s`, `ADD s`, `Jccc a16`, ...), each a function
from its fields to the constructor of that table row, and the bytes and costs the rules give an arithmetic or logical
form. Statements about a whole family are made through these functions. -/

namespace Sys2Proof.Machine

/-- `MOV d,s` (40_data_transfer.md R120): 49 rows. -/
def Form.mov : Reg → Reg → Instr
  | .b, .b => .movBB
  | .b, .c => .movBC
  | .b, .d => .movBD
  | .b, .e => .movBE
  | .b, .h => .movBH
  | .b, .l => .movBL
  | .b, .a => .movBA
  | .c, .b => .movCB
  | .c, .c => .movCC
  | .c, .d => .movCD
  | .c, .e => .movCE
  | .c, .h => .movCH
  | .c, .l => .movCL
  | .c, .a => .movCA
  | .d, .b => .movDB
  | .d, .c => .movDC
  | .d, .d => .movDD
  | .d, .e => .movDE
  | .d, .h => .movDH
  | .d, .l => .movDL
  | .d, .a => .movDA
  | .e, .b => .movEB
  | .e, .c => .movEC
  | .e, .d => .movED
  | .e, .e => .movEE
  | .e, .h => .movEH
  | .e, .l => .movEL
  | .e, .a => .movEA
  | .h, .b => .movHB
  | .h, .c => .movHC
  | .h, .d => .movHD
  | .h, .e => .movHE
  | .h, .h => .movHH
  | .h, .l => .movHL
  | .h, .a => .movHA
  | .l, .b => .movLB
  | .l, .c => .movLC
  | .l, .d => .movLD
  | .l, .e => .movLE
  | .l, .h => .movLH
  | .l, .l => .movLL
  | .l, .a => .movLA
  | .a, .b => .movAB
  | .a, .c => .movAC
  | .a, .d => .movAD
  | .a, .e => .movAE
  | .a, .h => .movAH
  | .a, .l => .movAL
  | .a, .a => .movAA

/-- `MOV d,M` (R121): 7 rows. -/
def Form.movFromM : Reg → Instr
  | .b => .movBM
  | .c => .movCM
  | .d => .movDM
  | .e => .movEM
  | .h => .movHM
  | .l => .movLM
  | .a => .movAM

/-- `MOV M,s` (R122): 7 rows. -/
def Form.movToM : Reg → Instr
  | .b => .movMB
  | .c => .movMC
  | .d => .movMD
  | .e => .movME
  | .h => .movMH
  | .l => .movML
  | .a => .movMA

/-- `MVI d,d8` (R123): 7 rows. -/
def Form.mvi : Reg → Byte → Instr
  | .b, v => .mviB v
  | .c, v => .mviC v
  | .d, v => .mviD v
  | .e, v => .mviE v
  | .h, v => .mviH v
  | .l, v => .mviL v
  | .a, v => .mviA v

/-- `LXI p,d16` (R125): 4 rows. -/
def Form.lxi : Pair → Word → Instr
  | .bc, v => .lxiB v
  | .de, v => .lxiD v
  | .hl, v => .lxiH v
  | .sp, v => .lxiSp v

/-- The pairs that address LDAX and STAX (30_encoding.md R94). -/
inductive IndirectPair where
  | bc | de
  deriving DecidableEq, Repr

/-- The pair itself. -/
def IndirectPair.pair : IndirectPair → Pair
  | .bc => .bc
  | .de => .de

/-- The pairs that PUSH and POP take beside PSW (30_encoding.md R94). -/
inductive StackPair where
  | bc | de | hl
  deriving DecidableEq, Repr

/-- The pair itself. -/
def StackPair.pair : StackPair → Pair
  | .bc => .bc
  | .de => .de
  | .hl => .hl

/-- The high register, then the low register of a pair (10_state.md R22). -/
def StackPair.halves : StackPair → Reg × Reg
  | .bc => (.b, .c)
  | .de => (.d, .e)
  | .hl => (.h, .l)

/-- `LDAX p` (R130): 2 rows. -/
def Form.ldax : IndirectPair → Instr
  | .bc => .ldaxB
  | .de => .ldaxD

/-- `STAX p` (R131): 2 rows. -/
def Form.stax : IndirectPair → Instr
  | .bc => .staxB
  | .de => .staxD

/-- `INR d` (41_arithmetic.md R155): 7 rows. -/
def Form.inr : Reg → Instr
  | .b => .inrB
  | .c => .inrC
  | .d => .inrD
  | .e => .inrE
  | .h => .inrH
  | .l => .inrL
  | .a => .inrA

/-- `DCR d` (R157): 7 rows. -/
def Form.dcr : Reg → Instr
  | .b => .dcrB
  | .c => .dcrC
  | .d => .dcrD
  | .e => .dcrE
  | .h => .dcrH
  | .l => .dcrL
  | .a => .dcrA

/-- `INX p` (R159): 4 rows. -/
def Form.inx : Pair → Instr
  | .bc => .inxB
  | .de => .inxD
  | .hl => .inxH
  | .sp => .inxSp

/-- `DCX p` (R160): 4 rows. -/
def Form.dcx : Pair → Instr
  | .bc => .dcxB
  | .de => .dcxD
  | .hl => .dcxH
  | .sp => .dcxSp

/-- `DAD p` (R161): 4 rows. -/
def Form.dad : Pair → Instr
  | .bc => .dadB
  | .de => .dadD
  | .hl => .dadH
  | .sp => .dadSp

/-- The operation field of the arithmetic and logical forms (30_encoding.md R97). -/
inductive AluOp where
  | add | adc | sub | sbb | ana | xra | ora | cmp
  deriving DecidableEq, Repr

/-- The field code of an operation (30_encoding.md R97). -/
def AluOp.code : AluOp → BitVec 3
  | .add => 0b000#3
  | .adc => 0b001#3
  | .sub => 0b010#3
  | .sbb => 0b011#3
  | .ana => 0b100#3
  | .xra => 0b101#3
  | .ora => 0b110#3
  | .cmp => 0b111#3

/-- The source of an arithmetic or logical form: a register, M, or the immediate byte. -/
inductive Src where
  | reg (r : Reg)
  | m
  | imm (v : Byte)
  deriving DecidableEq, Repr

/-- The value of the source. -/
def Src.value (s : State) : Src → Byte
  | .reg r => s.reg r
  | .m => s.m
  | .imm v => v

/-- The length of the form (30_encoding.md R90). -/
def Src.length : Src → Nat
  | .imm _ => 2
  | _ => 1

/-- The cost of the form (70_reset_and_hazards.md R325): 4 with a register, 7 with M or an immediate. -/
def Src.cost : Src → Nat
  | .reg _ => 4
  | _ => 7

/-- The bytes of the form: `10aaasss`, or `11aaa110 d8` (30_encoding.md R97). -/
def Src.bytes (op : AluOp) : Src → List Byte
  | .reg r => [0b10#2 ++ op.code ++ r.code]
  | .m => [0b10#2 ++ op.code ++ 0b110#3]
  | .imm v => [0b11#2 ++ op.code ++ 0b110#3, v]

/-- The register, M and immediate forms of the eight operations (41_arithmetic.md R143 to R154, 42_logical.md R180 to
R191): 72 rows. -/
def Form.alu : AluOp → Src → Instr
  | .add, .reg .b => .addB
  | .add, .reg .c => .addC
  | .add, .reg .d => .addD
  | .add, .reg .e => .addE
  | .add, .reg .h => .addH
  | .add, .reg .l => .addL
  | .add, .reg .a => .addA
  | .add, .m => .addM
  | .add, .imm v => .adi v
  | .adc, .reg .b => .adcB
  | .adc, .reg .c => .adcC
  | .adc, .reg .d => .adcD
  | .adc, .reg .e => .adcE
  | .adc, .reg .h => .adcH
  | .adc, .reg .l => .adcL
  | .adc, .reg .a => .adcA
  | .adc, .m => .adcM
  | .adc, .imm v => .aci v
  | .sub, .reg .b => .subB
  | .sub, .reg .c => .subC
  | .sub, .reg .d => .subD
  | .sub, .reg .e => .subE
  | .sub, .reg .h => .subH
  | .sub, .reg .l => .subL
  | .sub, .reg .a => .subA
  | .sub, .m => .subM
  | .sub, .imm v => .sui v
  | .sbb, .reg .b => .sbbB
  | .sbb, .reg .c => .sbbC
  | .sbb, .reg .d => .sbbD
  | .sbb, .reg .e => .sbbE
  | .sbb, .reg .h => .sbbH
  | .sbb, .reg .l => .sbbL
  | .sbb, .reg .a => .sbbA
  | .sbb, .m => .sbbM
  | .sbb, .imm v => .sbi v
  | .ana, .reg .b => .anaB
  | .ana, .reg .c => .anaC
  | .ana, .reg .d => .anaD
  | .ana, .reg .e => .anaE
  | .ana, .reg .h => .anaH
  | .ana, .reg .l => .anaL
  | .ana, .reg .a => .anaA
  | .ana, .m => .anaM
  | .ana, .imm v => .ani v
  | .xra, .reg .b => .xraB
  | .xra, .reg .c => .xraC
  | .xra, .reg .d => .xraD
  | .xra, .reg .e => .xraE
  | .xra, .reg .h => .xraH
  | .xra, .reg .l => .xraL
  | .xra, .reg .a => .xraA
  | .xra, .m => .xraM
  | .xra, .imm v => .xri v
  | .ora, .reg .b => .oraB
  | .ora, .reg .c => .oraC
  | .ora, .reg .d => .oraD
  | .ora, .reg .e => .oraE
  | .ora, .reg .h => .oraH
  | .ora, .reg .l => .oraL
  | .ora, .reg .a => .oraA
  | .ora, .m => .oraM
  | .ora, .imm v => .ori v
  | .cmp, .reg .b => .cmpB
  | .cmp, .reg .c => .cmpC
  | .cmp, .reg .d => .cmpD
  | .cmp, .reg .e => .cmpE
  | .cmp, .reg .h => .cmpH
  | .cmp, .reg .l => .cmpL
  | .cmp, .reg .a => .cmpA
  | .cmp, .m => .cmpM
  | .cmp, .imm v => .cpi v

/-- `Jccc a16` (43_branch.md R212): 8 rows. -/
def Form.jump : Cond → Word → Instr
  | .nz, a16 => .jnz a16
  | .z, a16 => .jz a16
  | .nc, a16 => .jnc a16
  | .c, a16 => .jc a16
  | .po, a16 => .jpo a16
  | .pe, a16 => .jpe a16
  | .p, a16 => .jp a16
  | .m, a16 => .jm a16

/-- `Cccc a16` (R215): 8 rows. -/
def Form.callIf : Cond → Word → Instr
  | .nz, a16 => .cnz a16
  | .z, a16 => .cz a16
  | .nc, a16 => .cnc a16
  | .c, a16 => .cc a16
  | .po, a16 => .cpo a16
  | .pe, a16 => .cpe a16
  | .p, a16 => .cp a16
  | .m, a16 => .cm a16

/-- `Rccc` (R217): 8 rows. -/
def Form.returnIf : Cond → Instr
  | .nz => .rnz
  | .z => .rz
  | .nc => .rnc
  | .c => .rc
  | .po => .rpo
  | .pe => .rpe
  | .p => .rp
  | .m => .rm

/-- `RST n` (R218): 8 rows. -/
def Form.rst : Fin 8 → Instr
  | 0 => .rst0
  | 1 => .rst1
  | 2 => .rst2
  | 3 => .rst3
  | 4 => .rst4
  | 5 => .rst5
  | 6 => .rst6
  | 7 => .rst7

/-- `PUSH p` (44_stack_io_control.md R230): 3 rows. -/
def Form.push : StackPair → Instr
  | .bc => .pushB
  | .de => .pushD
  | .hl => .pushH

/-- `POP p` (R232): 3 rows. -/
def Form.pop : StackPair → Instr
  | .bc => .popB
  | .de => .popD
  | .hl => .popH

/-- The 12 undocumented slots with their bytes (45_undocumented.md R260). -/
def Form.undocumented : List (Instr × Byte) :=
  [(.undoc08, 0x08), (.undoc10, 0x10), (.undoc18, 0x18), (.undoc20, 0x20),
   (.undoc28, 0x28), (.undoc30, 0x30), (.undoc38, 0x38), (.undocCB, 0xCB),
   (.undocD9, 0xD9), (.undocDD, 0xDD), (.undocED, 0xED), (.undocFD, 0xFD)]

end Sys2Proof.Machine
end

