-- ==== Sys2Proof/Machine/HostOps.lean ====
section
/-! DEFINITION. The host's operations on the core (00_scope.md R4): construction and reset, `update`, `raiseInterrupt`,
image loading, the handler installers and the three passive reads. Each acts between core steps. -/

namespace Sys2Proof.Machine

/-- The state after construction with the parameters `p` (70_reset_and_hazards.md R310), before the host installs a handler. -/
def construct (p : Params) : State := State.built p

/-- `reset()` (70_reset_and_hazards.md R311): the state of R310 whatever the prior state. The handlers, the parameters, the
fault record and the model's own trace are kept. -/
def resetOp (s : State) : State :=
  { State.built s.params with
    inHandler := s.inHandler
    outHandler := s.outHandler
    inDraws := s.inDraws
    events := s.events
    faultRec := s.faultRec }

/-- `raiseInterrupt(id)` (60_exceptions.md R281): entry when enabled, deferral into PEND when not (R283), and a refusal for
an id outside 0 to 7 (R271). -/
def raiseInterrupt (id : Nat) (s : State) : Out :=
  if vectorIdOk id then
    if s.ie then outcome (enterInterrupt s.pc (BitVec.ofNat 8 id) s)
    else .next { s with pend := 0x80 ||| BitVec.ofNat 8 id }
  else .refused (.interruptId id)

/-- Memory with an image copied in, over memory cleared first if so asked (20_memory.md R75). -/
def loadedMemory (bytes : List Byte) (address : Word) (clear : Bool) (s : State) : Memory :=
  Memory.load s.params.bootOpcode (if clear then Memory.zeroed s.params.bootOpcode else s.mem) address.toNat bytes

/-- `loadImage(bytes, address, clear)` (20_memory.md R75): the new state and whether it succeeded. `none` stands for a file
that the host reports unreadable. -/
def loadImage (image : Option (List Byte)) (address : Word) (clear : Bool) (s : State) : State × Bool :=
  match image with
  | none => (s, false)
  | some bytes =>
    if imageFits address bytes.length then
      ({ s with mem := loadedMemory bytes address clear s }, true)
    else (s, false)

/-- The read-only view of `mem[VRAM_BASE..VRAM_END]`, a range that is fixed while the machine runs (20_memory.md R76). -/
def videoView (s : State) : List Byte :=
  (List.range (s.params.vramEnd.toNat + 1 - s.params.vramBase.toNat)).map fun k =>
    s.mem.read s.params.bootOpcode (s.params.vramBase.toNat + k)

/-- The faulted state (20_memory.md R64, 70_reset_and_hazards.md R323): nothing is written but LASTOP, and the fault is
recorded. -/
def State.stopWith (s : State) (f : Fault) : State := { s with lastop := s.opcodeByte, faultRec := some f }

/-- What a host operation answers. -/
inductive Answer where
  /-- Nothing to report. -/
  | done
  /-- `ok(n - budget)` of `update`, the cycles consumed (R320). -/
  | consumed (cycles : Int)
  /-- `error(PreconditionViolation)` of `update` (R321). -/
  | preconditionViolation
  /-- `fault(kind, pc0)` (R323), or the fault of an interrupt entry (60_exceptions.md R282). -/
  | faulted (f : Fault)
  /-- The success flag of `loadImage`. -/
  | loaded (success : Bool)
  /-- A port-mirror slot (20_memory.md R73). -/
  | slot (v : Word)
  /-- A copy of a memory range (20_memory.md R76). -/
  | bytes (view : List Byte)
  /-- PC and LASTOP (60_exceptions.md R300). -/
  | diagnostic (pc : Word) (lastop : Byte)
  deriving DecidableEq, Repr

/-- What a host operation leaves: the state with an answer, or a refusal. -/
abbrev Served := Host.Outcome (State × Answer) Fault Refusal

/-- The loop of `update(n)` (70_reset_and_hazards.md R320): steps until the budget is at or below zero. With
well-formed parameters every step costs at least 1, so `n` rounds of fuel are never used up (log entry 18). -/
def updateLoop (n : Int) : Nat → State → Served
  | 0, _ => .refused .endlessUpdate
  | fuel + 1, s =>
    match step s with
    | .next t => if t.budget ≤ 0 then .next (t, .consumed (n - t.budget)) else updateLoop n fuel t
    | .fault f => .next (s.stopWith f, .faulted f)
    | .refused r => .refused r

/-- `update(n)` (70_reset_and_hazards.md R320, R321, R323). A faulted machine answers its recorded fault. -/
def update (n : Int) (s : State) : Served :=
  if budgetOk n then
    match s.faultRec with
    | some f => .next (s, .faulted f)
    | none => updateLoop n n.toNat { s with budget := n }
  else .next (s, .preconditionViolation)

/-- `raiseInterrupt` as an operation on a state: an entry that faults writes nothing and the fault is recorded; a record
that is there stays (log entry 15). -/
def serveInterrupt (id : Nat) (s : State) : Served :=
  match raiseInterrupt id s with
  | .next t => .next (t, .done)
  | .fault f => .next ({ s with faultRec := some (s.faultRec.getD f) }, .faulted f)
  | .refused r => .refused r

/-- The operations of 00_scope.md R4. -/
inductive Request where
  | reset
  | update (n : Int)
  | raiseInterrupt (id : Nat)
  | loadImage (image : Option (List Byte)) (address : Word) (clear : Bool)
  | setInputHandler
  | setOutputHandler
  | readPort (port : Byte)
  | videoView
  | diagnostic
  deriving DecidableEq, Repr

/-- Serves one operation between core steps. While an `update` is in flight every operation is refused
(60_exceptions.md R271 (b)). -/
def serve (inFlight : Bool) (request : Request) (s : State) : Served :=
  if inFlight then .refused .updateInFlight
  else
    match request with
    | .reset => .next (resetOp s, .done)
    | .update n => update n s
    | .raiseInterrupt id => serveInterrupt id s
    | .loadImage image address clear =>
      .next ((loadImage image address clear s).1, .loaded (loadImage image address clear s).2)
    | .setInputHandler => .next ({ s with inHandler := true }, .done)
    | .setOutputHandler => .next ({ s with outHandler := true }, .done)
    | .readPort port => .next (s, .slot (s.ports.read port))
    | .videoView => .next (s, .bytes (videoView s))
    | .diagnostic => .next (s, .diagnostic s.pc s.lastop)

end Sys2Proof.Machine
end

