-- ==== Sys2Proof/Safety.lean ====
section
/-! DEFINITION. The terms the statements use: when the addresses of a step lie in the address space, what a step leaves
unchanged, which instructions write what, the invariant and the reachable states. -/

namespace Sys2Proof.Safety

open Sys2Proof.Machine

/-- `z` is an address, or wraps to one (20_memory.md R64). -/
abbrev Addressable (policy : WrapPolicy) (z : Int) : Prop := policy = .wrap ∨ (0 ≤ z ∧ z ≤ 0xFFFF)

/-- `next = pc0 + len` can be formed. -/
abbrev Fits (s : State) (len : Nat) : Prop := Addressable s.params.wrapPolicy ((s.pc.toNat : Int) + len)

/-- A push can be made: its lower address `SP - 2` can be formed (20_memory.md R65). -/
abbrev PushFits (s : State) : Prop := Addressable s.params.wrapPolicy ((s.sp.toNat : Int) - 2)

/-- A pop can be made: `SP + 2` can be formed (20_memory.md R66). -/
abbrev PopFits (s : State) : Prop := Addressable s.params.wrapPolicy ((s.sp.toNat : Int) + 2)

/-- A word access at `addr` can be made: `addr + 1` can be formed (20_memory.md R62, R63). -/
abbrev WordFits (s : State) (addr : Word) : Prop := Addressable s.params.wrapPolicy ((addr.toNat : Int) + 1)

/-- The encoding and the cost that a rule gives an instruction (the cost is the default of `CYCLE_COST`). -/
def Coded (i : Instr) (bytes : List Byte) (cost : Nat) : Prop :=
  encode i = bytes ∧ defaultParams.cycleCost i.opcode = cost

/-- The "wrap only" exception of the instruction rules: where `next` cannot be formed, the instruction faults. -/
def WrapFaults (i : Instr) (s : State) : Prop :=
  ¬ Fits s i.length → exec i s = .fault (.addressWrap s.pc ((s.pc.toNat : Int) + i.length))

/-- The stack fault of an instruction that pushes: SP - 2 cannot be formed. -/
def PushFaults (i : Instr) (s : State) : Prop :=
  ¬ PushFits s → exec i s = .fault (.addressWrap s.pc ((s.sp.toNat : Int) - 2))

/-- The stack fault of an instruction that pops: the first address past the top of memory is 0x10000. -/
def PopFaults (i : Instr) (s : State) : Prop := ¬ PopFits s → exec i s = .fault (.addressWrap s.pc 0x10000)

/-- Every 8-bit register but those named is unchanged. -/
def KeepsRegs (changed : List Reg) (s t : State) : Prop := ∀ r, r ∉ changed → t.reg r = s.reg r

/-- Every byte of memory but those at the addresses named is unchanged. -/
def KeepsMemory (changed : List Word) (s t : State) : Prop := ∀ a : Word, a ∉ changed → t.readByte a = s.readByte a

/-- IE, PEND and HALT are unchanged. -/
def KeepsInterrupts (s t : State) : Prop := t.ie = s.ie ∧ t.pend = s.pend ∧ t.halt = s.halt

/-- The budget, LASTOP, the parameters and the fault record are unchanged. -/
def KeepsEngine (s t : State) : Prop :=
  t.budget = s.budget ∧ t.lastop = s.lastop ∧ t.params = s.params ∧ t.faultRec = s.faultRec

/-- The port mirror, the handlers, the count of draws and the trace are unchanged. -/
def KeepsIo (s t : State) : Prop :=
  t.ports = s.ports ∧ t.inHandler = s.inHandler ∧ t.outHandler = s.outHandler ∧ t.inDraws = s.inDraws ∧
    t.events = s.events

/-- The frame of an instruction that changes only the registers and bytes named (and, as its statement says, SP, the
flags and PC). -/
def Frame (regs : List Reg) (addrs : List Word) (s t : State) : Prop :=
  KeepsRegs regs s t ∧ KeepsMemory addrs s t ∧ KeepsInterrupts s t ∧ KeepsEngine s t ∧ KeepsIo s t

/-- S, Z and P are set from `r` (10_state.md R31): bit 7, zero, an even number of 1 bits. -/
def SzpFrom (r : Byte) (f : Flags) : Prop :=
  f.s = r.getLsbD 7 ∧ (f.z = true ↔ r = 0) ∧ (f.p = true ↔ ((List.range 8).countP fun k => r.getLsbD k) % 2 = 0)

/-- S, Z, AC and P are unchanged. -/
def KeepsSzap (s t : State) : Prop :=
  t.flags.s = s.flags.s ∧ t.flags.z = s.flags.z ∧ t.flags.ac = s.flags.ac ∧ t.flags.p = s.flags.p

/-- The opcode bytes `10xxxxxx` and `11aaa110`: the register, M and immediate forms of the ALU (30_encoding.md R97). -/
def isAlu (op : Byte) : Bool := (op &&& 0xC0) == 0x80 || (op &&& 0xC7) == 0xC6

/-- The opcode bytes `00ddd100` and `00ddd101`: INR and DCR. -/
def isIncDec (op : Byte) : Bool := (op &&& 0xC6) == 0x04

/-- The instructions that write S, Z, AC and P (10_state.md R35): the ALU group, INR, DCR, DAA and POP PSW. -/
def writesSzap (op : Byte) : Bool := isAlu op || isIncDec op || op == 0x27 || op == 0xF1

/-- The instructions that write CY (10_state.md R35): the ALU group, DAA, DAD, the rotates, STC, CMC and POP PSW. -/
def writesCy (op : Byte) : Bool :=
  isAlu op || op == 0x27 || op == 0xF1 || (op &&& 0xCF) == 0x09 || (op &&& 0xE7) == 0x07 || op == 0x37 || op == 0x3F

/-- The instructions that write a register (10_state.md R25): MOV d,s, MVI, INR and DCR of the register, the ALU group but
for CMP and CPI for A, LXI, INX, DCX and POP of the pair for the others, and the single bytes named. -/
def writesReg (r : Reg) (op : Byte) : Bool :=
  (op != 0x76 && (op &&& 0xF8) == (0b01#2 ++ r.code ++ 0b000#3)) ||
  op == (0b00#2 ++ r.code ++ 0b110#3) || op == (0b00#2 ++ r.code ++ 0b100#3) || op == (0b00#2 ++ r.code ++ 0b101#3) ||
  match r with
  | .a => (isAlu op && (op &&& 0xF8) != 0xB8 && op != 0xFE) ||
      [0x0A#8, 0x1A#8, 0x3A#8, 0x27#8, 0x2F#8, 0x07#8, 0x0F#8, 0x17#8, 0x1F#8, 0xDB#8, 0xF1#8].contains op
  | .b => [0x01#8, 0x03#8, 0x0B#8, 0xC1#8].contains op
  | .c => [0x01#8, 0x03#8, 0x0B#8, 0xC1#8].contains op
  | .d => [0x11#8, 0x13#8, 0x1B#8, 0xD1#8, 0xEB#8].contains op
  | .e => [0x11#8, 0x13#8, 0x1B#8, 0xD1#8, 0xEB#8].contains op
  | .h => [0x21#8, 0x23#8, 0x2B#8, 0xE1#8, 0x2A#8, 0x09#8, 0x19#8, 0x29#8, 0x39#8, 0xE3#8, 0xEB#8].contains op
  | .l => [0x21#8, 0x23#8, 0x2B#8, 0xE1#8, 0x2A#8, 0x09#8, 0x19#8, 0x29#8, 0x39#8, 0xE3#8, 0xEB#8].contains op

/-- PUSH, CALL, Ccc, RST and EI (when it delivers), the instructions that push (10_state.md R25). -/
def pushes (op : Byte) : Bool :=
  (op &&& 0xCF) == 0xC5 || op == 0xCD || (op &&& 0xC7) == 0xC4 || (op &&& 0xC7) == 0xC7 || op == 0xFB

/-- The instructions that write SP (10_state.md R25): those that push, POP, RET, Rcc, LXI SP, INX SP, DCX SP and SPHL. -/
def writesSp (op : Byte) : Bool :=
  pushes op || (op &&& 0xCF) == 0xC1 || op == 0xC9 || (op &&& 0xC7) == 0xC0 || op == 0x31 || op == 0x33 || op == 0x3B ||
    op == 0xF9

/-- The instructions that write memory (20_memory.md R69): those that push, XTHL, MOV M,s, MVI M, INR M, DCR M, STA, STAX
and SHLD. -/
def writesMemory (op : Byte) : Bool :=
  pushes op || op == 0xE3 || (op != 0x76 && (op &&& 0xF8) == 0x70) || op == 0x36 || op == 0x34 || op == 0x35 ||
    op == 0x32 || op == 0x02 || op == 0x12 || op == 0x22

/-- The invariant of the machine: the parameters are well-formed, memory and the port mirror are canonical, every mirror slot has a zero high byte, PEND
is empty or 0x80 | id with id in 0 to 7 (10_state.md R37), and a request pends only while interrupts are disabled (R39). -/
abbrev Inv (s : State) : Prop :=
  s.params.wf = true ∧ s.mem.wf s.params.bootOpcode ∧ s.ports.wf ∧ (∀ slot ∈ s.ports, slot.2.toNat < 256) ∧
    (s.pend = 0 ∨ (0x80 ≤ s.pend.toNat ∧ s.pend.toNat ≤ 0x87)) ∧ (s.pend ≠ 0 → s.ie = false)

/-- The states a host can bring the core to: construction, with any well-formed parameters, then steps and host operations
in any order. -/
inductive Reachable : State → Prop where
  | constructed (p : Params) : p.wf = true → Reachable (construct p)
  | stepped (s t : State) : Reachable s → step s = .next t → Reachable t
  | served (request : Request) (s t : State) (answer : Answer) :
      Reachable s → serve false request s = .next (t, answer) → Reachable t

end Sys2Proof.Safety
end

