-- ==== Sys2Proof/Certificates/Slice0/Obligations.lean ====
section
/-! DEFINITION. The statements for the provers, in the order of the specification's files. An instruction statement says
the encoding and cost of its rule, where `next` cannot be formed, and otherwise the next state: the results, and in
`Frame` what is left unchanged. -/

open Sys2Proof Sys2Proof.Machine Sys2Proof.Safety

/-! ## Encoding (30_encoding.md) -/

/-- R90 to R92, R99: the bytes of an instruction decode to it, whatever follows them. -/
def Obligations.DecodeOfEncodeIsTheInstruction : Prop :=
  ∀ (i : Instr) (rest : List Byte), i.wellFormed = true → decode (encode i ++ rest) = .ok (i, rest)

/-- R91, R101: every opcode byte with two bytes after it decodes, and the bytes read are those of the instruction. -/
def Obligations.EveryOpcodeByteDecodesToItsOwnBytes : Prop :=
  (∀ (op second third : Byte) (rest : List Byte), ∃ i left, decode (op :: second :: third :: rest) = .ok (i, left)) ∧
  ∀ (bytes rest : List Byte) (i : Instr), decode bytes = .ok (i, rest) → encode i ++ rest = bytes

/-- R98, R99: words written out bit by bit decode to the instructions they stand for. -/
def Obligations.SampleWordsDecode : Prop :=
  decodeTableWord 8 0b01000001 = some .movBC ∧
  decodeTableWord 24 0b000100100011010000100001 = some (.lxiH 0x1234) ∧
  decodeTableWord 8 0b10001110 = some .adcM ∧
  decodeTableWord 16 0b0000111111100110 = some (.ani 0x0F) ∧
  decodeTableWord 24 0b001000000000000011001010 = some (.jz 0x2000) ∧
  decodeTableWord 8 0b01110110 = some .hlt ∧
  decodeTableWord 8 0b11110101 = some .pushPsw ∧
  decodeTableWord 16 0b0000001111010011 = some (.outPort 0x03) ∧
  decodeTableWord 8 0b11001011 = some .undocCB

/-! ## Data transfer (40_data_transfer.md) -/

/-- R120, 49 rows. -/
def Obligations.MovRegisterToRegister : Prop :=
  ∀ (dst src : Reg) (s : State),
    Coded (Form.mov dst src) [0b01#2 ++ dst.code ++ src.code] 5 ∧ WrapFaults (Form.mov dst src) s ∧
    (Fits s 1 → ∃ t, exec (Form.mov dst src) s = .next t ∧ t.pc = s.pc + 1 ∧ t.reg dst = s.reg src ∧
      t.sp = s.sp ∧ t.flags = s.flags ∧ Frame [dst] [] s t)

/-- R121, 7 rows: the byte is read at the old HL. -/
def Obligations.MovMemoryToRegister : Prop :=
  ∀ (dst : Reg) (s : State),
    Coded (Form.movFromM dst) [0b01#2 ++ dst.code ++ 0b110#3] 7 ∧ WrapFaults (Form.movFromM dst) s ∧
    (Fits s 1 → ∃ t, exec (Form.movFromM dst) s = .next t ∧ t.pc = s.pc + 1 ∧ t.reg dst = s.readByte s.hl ∧
      t.sp = s.sp ∧ t.flags = s.flags ∧ Frame [dst] [] s t)

/-- R122, 7 rows. -/
def Obligations.MovRegisterToMemory : Prop :=
  ∀ (src : Reg) (s : State),
    Coded (Form.movToM src) [0b01110#5 ++ src.code] 7 ∧ WrapFaults (Form.movToM src) s ∧
    (Fits s 1 → ∃ t, exec (Form.movToM src) s = .next t ∧ t.pc = s.pc + 1 ∧ t.readByte s.hl = s.reg src ∧
      t.sp = s.sp ∧ t.flags = s.flags ∧ Frame [] [s.hl] s t)

/-- R123 (7 rows) and R124. -/
def Obligations.MviWritesTheImmediate : Prop :=
  ∀ (v : Byte) (s : State),
    (∀ dst : Reg, Coded (Form.mvi dst v) [0b00#2 ++ dst.code ++ 0b110#3, v] 7 ∧ WrapFaults (Form.mvi dst v) s ∧
      (Fits s 2 → ∃ t, exec (Form.mvi dst v) s = .next t ∧ t.pc = s.pc + 2 ∧ t.reg dst = v ∧
        t.sp = s.sp ∧ t.flags = s.flags ∧ Frame [dst] [] s t)) ∧
    Coded (.mviM v) [0b00110110#8, v] 10 ∧ WrapFaults (.mviM v) s ∧
    (Fits s 2 → ∃ t, exec (.mviM v) s = .next t ∧ t.pc = s.pc + 2 ∧ t.readByte s.hl = v ∧
      t.sp = s.sp ∧ t.flags = s.flags ∧ Frame [] [s.hl] s t)

/-- R125, 4 rows: the high half goes to the first register of the pair; `LXI SP` writes SP and no 8-bit register. -/
def Obligations.LxiLoadsThePair : Prop :=
  ∀ (pair : Pair) (v : Word) (s : State),
    Coded (Form.lxi pair v) [0b00#2 ++ pair.code ++ 0b0001#4, v.extractLsb' 0 8, v.extractLsb' 8 8] 10 ∧
    WrapFaults (Form.lxi pair v) s ∧
    (Fits s 3 → ∃ t, exec (Form.lxi pair v) s = .next t ∧ t.pc = s.pc + 3 ∧ t.flags = s.flags ∧
      match pair with
      | .bc => t.b = v.extractLsb' 8 8 ∧ t.c = v.extractLsb' 0 8 ∧ t.sp = s.sp ∧ Frame [.b, .c] [] s t
      | .de => t.d = v.extractLsb' 8 8 ∧ t.e = v.extractLsb' 0 8 ∧ t.sp = s.sp ∧ Frame [.d, .e] [] s t
      | .hl => t.h = v.extractLsb' 8 8 ∧ t.l = v.extractLsb' 0 8 ∧ t.sp = s.sp ∧ Frame [.h, .l] [] s t
      | .sp => t.sp = v ∧ Frame [] [] s t)

/-- R126 and R130 (2 rows). -/
def Obligations.LdaAndLdaxLoadTheAccumulator : Prop :=
  ∀ s : State,
    (∀ a16 : Word, Coded (.lda a16) [0b00111010#8, a16.extractLsb' 0 8, a16.extractLsb' 8 8] 13 ∧
      WrapFaults (.lda a16) s ∧
      (Fits s 3 → ∃ t, exec (.lda a16) s = .next t ∧ t.pc = s.pc + 3 ∧ t.a = s.readByte a16 ∧
        t.sp = s.sp ∧ t.flags = s.flags ∧ Frame [.a] [] s t)) ∧
    ∀ p : IndirectPair, Coded (Form.ldax p) [0b00#2 ++ p.pair.code ++ 0b1010#4] 7 ∧ WrapFaults (Form.ldax p) s ∧
      (Fits s 1 → ∃ t, exec (Form.ldax p) s = .next t ∧ t.pc = s.pc + 1 ∧ t.a = s.readByte (s.pair p.pair) ∧
        t.sp = s.sp ∧ t.flags = s.flags ∧ Frame [.a] [] s t)

/-- R127 and R131 (2 rows). -/
def Obligations.StaAndStaxStoreTheAccumulator : Prop :=
  ∀ s : State,
    (∀ a16 : Word, Coded (.sta a16) [0b00110010#8, a16.extractLsb' 0 8, a16.extractLsb' 8 8] 13 ∧
      WrapFaults (.sta a16) s ∧
      (Fits s 3 → ∃ t, exec (.sta a16) s = .next t ∧ t.pc = s.pc + 3 ∧ t.readByte a16 = s.a ∧
        t.sp = s.sp ∧ t.flags = s.flags ∧ Frame [] [a16] s t)) ∧
    ∀ p : IndirectPair, Coded (Form.stax p) [0b00#2 ++ p.pair.code ++ 0b0010#4] 7 ∧ WrapFaults (Form.stax p) s ∧
      (Fits s 1 → ∃ t, exec (Form.stax p) s = .next t ∧ t.pc = s.pc + 1 ∧ t.readByte (s.pair p.pair) = s.a ∧
        t.sp = s.sp ∧ t.flags = s.flags ∧ Frame [] [s.pair p.pair] s t)

/-- R128. -/
def Obligations.LhldLoadsAWord : Prop :=
  ∀ (a16 : Word) (s : State),
    Coded (.lhld a16) [0b00101010#8, a16.extractLsb' 0 8, a16.extractLsb' 8 8] 16 ∧ WrapFaults (.lhld a16) s ∧
    (Fits s 3 → WordFits s a16 → ∃ t, exec (.lhld a16) s = .next t ∧ t.pc = s.pc + 3 ∧ t.l = s.readByte a16 ∧
      t.h = s.readByte (a16 + 1) ∧ t.sp = s.sp ∧ t.flags = s.flags ∧ Frame [.h, .l] [] s t) ∧
    (Fits s 3 → ¬ WordFits s a16 → exec (.lhld a16) s = .fault (.addressWrap s.pc 0x10000))

/-- R129. -/
def Obligations.ShldStoresAWord : Prop :=
  ∀ (a16 : Word) (s : State),
    Coded (.shld a16) [0b00100010#8, a16.extractLsb' 0 8, a16.extractLsb' 8 8] 16 ∧ WrapFaults (.shld a16) s ∧
    (Fits s 3 → WordFits s a16 → ∃ t, exec (.shld a16) s = .next t ∧ t.pc = s.pc + 3 ∧ t.readByte a16 = s.l ∧
      t.readByte (a16 + 1) = s.h ∧ t.sp = s.sp ∧ t.flags = s.flags ∧ Frame [] [a16, a16 + 1] s t) ∧
    (Fits s 3 → ¬ WordFits s a16 → exec (.shld a16) s = .fault (.addressWrap s.pc 0x10000))

/-- R132 and 44_stack_io_control.md R235. -/
def Obligations.XchgSwapsAndSphlCopies : Prop :=
  ∀ s : State,
    Coded .xchg [0b11101011#8] 4 ∧ WrapFaults .xchg s ∧ Coded .sphl [0b11111001#8] 5 ∧ WrapFaults .sphl s ∧
    (Fits s 1 → ∃ t, exec .xchg s = .next t ∧ t.pc = s.pc + 1 ∧ t.h = s.d ∧ t.l = s.e ∧ t.d = s.h ∧ t.e = s.l ∧
      t.sp = s.sp ∧ t.flags = s.flags ∧ Frame [.d, .e, .h, .l] [] s t) ∧
    (Fits s 1 → ∃ t, exec .sphl s = .next t ∧ t.pc = s.pc + 1 ∧ t.sp = s.h ++ s.l ∧ t.flags = s.flags ∧
      Frame [] [] s t)

/-! ## Arithmetic (41_arithmetic.md) -/

/-- R143 to R148, 18 rows: the sum modulo 256, CY the carry out of bit 7, AC the carry out of bit 3. -/
def Obligations.AddAndAdcAdd : Prop :=
  ∀ (withCarry : Bool) (src : Src) (s : State),
    let op : AluOp := if withCarry then .adc else .add
    let cin : Bool := withCarry && s.flags.cy
    Coded (Form.alu op src) (src.bytes op) src.cost ∧ WrapFaults (Form.alu op src) s ∧
    (Fits s src.length → ∃ t, exec (Form.alu op src) s = .next t ∧ t.pc = s.pc + BitVec.ofNat 16 src.length ∧
      t.a = s.a + src.value s + (if cin then 1 else 0) ∧ SzpFrom t.a t.flags ∧
      (t.flags.cy = true ↔ 256 ≤ s.a.toNat + (src.value s).toNat + cin.toNat) ∧
      (t.flags.ac = true ↔ 16 ≤ s.a.toNat % 16 + (src.value s).toNat % 16 + cin.toNat) ∧
      t.sp = s.sp ∧ Frame [.a] [] s t)

/-- R149 to R154, 18 rows: the difference modulo 256, CY the borrow, AC the inverse of the nibble borrow (R141). -/
def Obligations.SubAndSbbSubtract : Prop :=
  ∀ (withBorrow : Bool) (src : Src) (s : State),
    let op : AluOp := if withBorrow then .sbb else .sub
    let bin : Bool := withBorrow && s.flags.cy
    Coded (Form.alu op src) (src.bytes op) src.cost ∧ WrapFaults (Form.alu op src) s ∧
    (Fits s src.length → ∃ t, exec (Form.alu op src) s = .next t ∧ t.pc = s.pc + BitVec.ofNat 16 src.length ∧
      t.a = s.a - src.value s - (if bin then 1 else 0) ∧ SzpFrom t.a t.flags ∧
      (t.flags.cy = true ↔ s.a.toNat < (src.value s).toNat + bin.toNat) ∧
      (t.flags.ac = true ↔ (src.value s).toNat % 16 + bin.toNat ≤ s.a.toNat % 16) ∧
      t.sp = s.sp ∧ Frame [.a] [] s t)

/-- R155 (7 rows) and R156: CY is kept, AC says the low nibble of the result is 0. -/
def Obligations.InrIncrements : Prop :=
  ∀ s : State,
    (∀ dst : Reg, Coded (Form.inr dst) [0b00#2 ++ dst.code ++ 0b100#3] 5 ∧ WrapFaults (Form.inr dst) s ∧
      (Fits s 1 → ∃ t, exec (Form.inr dst) s = .next t ∧ t.pc = s.pc + 1 ∧ t.reg dst = s.reg dst + 1 ∧
        SzpFrom (s.reg dst + 1) t.flags ∧ (t.flags.ac = true ↔ (s.reg dst).toNat % 16 = 15) ∧
        t.flags.cy = s.flags.cy ∧ t.sp = s.sp ∧ Frame [dst] [] s t)) ∧
    Coded .inrM [0b00110100#8] 10 ∧ WrapFaults .inrM s ∧
    (Fits s 1 → ∃ t, exec .inrM s = .next t ∧ t.pc = s.pc + 1 ∧ t.readByte s.hl = s.readByte s.hl + 1 ∧
      SzpFrom (s.readByte s.hl + 1) t.flags ∧ (t.flags.ac = true ↔ (s.readByte s.hl).toNat % 16 = 15) ∧
      t.flags.cy = s.flags.cy ∧ t.sp = s.sp ∧ Frame [] [s.hl] s t)

/-- R157 (7 rows) and R158: CY is kept, AC says the low nibble of the operand was not 0. -/
def Obligations.DcrDecrements : Prop :=
  ∀ s : State,
    (∀ dst : Reg, Coded (Form.dcr dst) [0b00#2 ++ dst.code ++ 0b101#3] 5 ∧ WrapFaults (Form.dcr dst) s ∧
      (Fits s 1 → ∃ t, exec (Form.dcr dst) s = .next t ∧ t.pc = s.pc + 1 ∧ t.reg dst = s.reg dst - 1 ∧
        SzpFrom (s.reg dst - 1) t.flags ∧ (t.flags.ac = true ↔ (s.reg dst).toNat % 16 ≠ 0) ∧
        t.flags.cy = s.flags.cy ∧ t.sp = s.sp ∧ Frame [dst] [] s t)) ∧
    Coded .dcrM [0b00110101#8] 10 ∧ WrapFaults .dcrM s ∧
    (Fits s 1 → ∃ t, exec .dcrM s = .next t ∧ t.pc = s.pc + 1 ∧ t.readByte s.hl = s.readByte s.hl - 1 ∧
      SzpFrom (s.readByte s.hl - 1) t.flags ∧ (t.flags.ac = true ↔ (s.readByte s.hl).toNat % 16 ≠ 0) ∧
      t.flags.cy = s.flags.cy ∧ t.sp = s.sp ∧ Frame [] [s.hl] s t)

/-- R159 and R160, 8 rows: the 16-bit value wraps and no flag changes. -/
def Obligations.InxAndDcxCountPairs : Prop :=
  ∀ (pair : Pair) (s : State),
    let regs : List Reg := match pair with | .bc => [.b, .c] | .de => [.d, .e] | .hl => [.h, .l] | .sp => []
    Coded (Form.inx pair) [0b00#2 ++ pair.code ++ 0b0011#4] 5 ∧ WrapFaults (Form.inx pair) s ∧
    Coded (Form.dcx pair) [0b00#2 ++ pair.code ++ 0b1011#4] 5 ∧ WrapFaults (Form.dcx pair) s ∧
    (Fits s 1 → ∃ t, exec (Form.inx pair) s = .next t ∧ t.pc = s.pc + 1 ∧ t.pair pair = s.pair pair + 1 ∧
      (pair ≠ .sp → t.sp = s.sp) ∧ t.flags = s.flags ∧ Frame regs [] s t) ∧
    (Fits s 1 → ∃ t, exec (Form.dcx pair) s = .next t ∧ t.pc = s.pc + 1 ∧ t.pair pair = s.pair pair - 1 ∧
      (pair ≠ .sp → t.sp = s.sp) ∧ t.flags = s.flags ∧ Frame regs [] s t)

/-- R161, 4 rows: CY is the carry out of bit 15 and no other flag changes. -/
def Obligations.DadAddsToHl : Prop :=
  ∀ (pair : Pair) (s : State),
    Coded (Form.dad pair) [0b00#2 ++ pair.code ++ 0b1001#4] 10 ∧ WrapFaults (Form.dad pair) s ∧
    (Fits s 1 → ∃ t, exec (Form.dad pair) s = .next t ∧ t.pc = s.pc + 1 ∧ t.hl = s.hl + s.pair pair ∧
      (t.flags.cy = true ↔ 65536 ≤ s.hl.toNat + (s.pair pair).toNat) ∧ KeepsSzap s t ∧ t.sp = s.sp ∧
      Frame [.h, .l] [] s t)

/-- R162: the correction, in decimal digits of A: 6 when AC or the low digit is above 9, 60 (hexadecimal) when CY or the
whole of A is above 0x99; CY is set by the high correction and never cleared. -/
def Obligations.DaaAdjustsDecimally : Prop :=
  ∀ s : State,
    let low : Nat := if s.flags.ac = true ∨ 9 < s.a.toNat % 16 then 0x06 else 0
    let high : Nat := if s.flags.cy = true ∨ 0x99 < s.a.toNat then 0x60 else 0
    Coded .daa [0b00100111#8] 4 ∧ WrapFaults .daa s ∧
    (Fits s 1 → ∃ t, exec .daa s = .next t ∧ t.pc = s.pc + 1 ∧ t.a = BitVec.ofNat 8 (s.a.toNat + low + high) ∧
      SzpFrom t.a t.flags ∧ (t.flags.ac = true ↔ 16 ≤ s.a.toNat % 16 + low) ∧ (t.flags.cy = true ↔ high = 0x60) ∧
      t.sp = s.sp ∧ Frame [.a] [] s t)

/-! ## Logical (42_logical.md) -/

/-- R180 to R182, 9 rows: AC is bit 3 of the OR of the operands, CY is cleared. -/
def Obligations.AnaAnds : Prop :=
  ∀ (src : Src) (s : State),
    Coded (Form.alu .ana src) (src.bytes .ana) src.cost ∧ WrapFaults (Form.alu .ana src) s ∧
    (Fits s src.length → ∃ t, exec (Form.alu .ana src) s = .next t ∧ t.pc = s.pc + BitVec.ofNat 16 src.length ∧
      t.a = s.a &&& src.value s ∧ SzpFrom t.a t.flags ∧ t.flags.cy = false ∧
      t.flags.ac = (s.a.getLsbD 3 || (src.value s).getLsbD 3) ∧ t.sp = s.sp ∧ Frame [.a] [] s t)

/-- R183 to R188, 18 rows: AC and CY are cleared. -/
def Obligations.XraAndOraCombine : Prop :=
  ∀ (exclusive : Bool) (src : Src) (s : State),
    let op : AluOp := if exclusive then .xra else .ora
    Coded (Form.alu op src) (src.bytes op) src.cost ∧ WrapFaults (Form.alu op src) s ∧
    (Fits s src.length → ∃ t, exec (Form.alu op src) s = .next t ∧ t.pc = s.pc + BitVec.ofNat 16 src.length ∧
      t.a = (if exclusive then s.a ^^^ src.value s else s.a ||| src.value s) ∧ SzpFrom t.a t.flags ∧
      t.flags.ac = false ∧ t.flags.cy = false ∧ t.sp = s.sp ∧ Frame [.a] [] s t)

/-- R189 to R191, 9 rows: Z says equal, CY says below, A is kept. -/
def Obligations.CmpCompares : Prop :=
  ∀ (src : Src) (s : State),
    Coded (Form.alu .cmp src) (src.bytes .cmp) src.cost ∧ WrapFaults (Form.alu .cmp src) s ∧
    (Fits s src.length → ∃ t, exec (Form.alu .cmp src) s = .next t ∧ t.pc = s.pc + BitVec.ofNat 16 src.length ∧
      SzpFrom (s.a - src.value s) t.flags ∧ (t.flags.z = true ↔ s.a = src.value s) ∧
      (t.flags.cy = true ↔ s.a.toNat < (src.value s).toNat) ∧
      (t.flags.ac = true ↔ (src.value s).toNat % 16 ≤ s.a.toNat % 16) ∧ t.sp = s.sp ∧ Frame [] [] s t)

/-- R192 to R195: 8-bit rotates, and 9-bit rotates through CY; no other flag changes. -/
def Obligations.RotatesMoveTheAccumulator : Prop :=
  ∀ s : State,
    Coded .rlc [0b00000111#8] 4 ∧ Coded .rrc [0b00001111#8] 4 ∧ Coded .ral [0b00010111#8] 4 ∧
    Coded .rar [0b00011111#8] 4 ∧ WrapFaults .rlc s ∧ WrapFaults .rrc s ∧ WrapFaults .ral s ∧ WrapFaults .rar s ∧
    (Fits s 1 →
      (∃ t, exec .rlc s = .next t ∧ t.pc = s.pc + 1 ∧ t.a = s.a.rotateLeft 1 ∧ t.flags.cy = s.a.getLsbD 7 ∧
        KeepsSzap s t ∧ t.sp = s.sp ∧ Frame [.a] [] s t) ∧
      (∃ t, exec .rrc s = .next t ∧ t.pc = s.pc + 1 ∧ t.a = s.a.rotateRight 1 ∧ t.flags.cy = s.a.getLsbD 0 ∧
        KeepsSzap s t ∧ t.sp = s.sp ∧ Frame [.a] [] s t) ∧
      (∃ t, exec .ral s = .next t ∧ t.pc = s.pc + 1 ∧
        BitVec.ofBool t.flags.cy ++ t.a = (BitVec.ofBool s.flags.cy ++ s.a).rotateLeft 1 ∧
        KeepsSzap s t ∧ t.sp = s.sp ∧ Frame [.a] [] s t) ∧
      (∃ t, exec .rar s = .next t ∧ t.pc = s.pc + 1 ∧
        BitVec.ofBool t.flags.cy ++ t.a = (BitVec.ofBool s.flags.cy ++ s.a).rotateRight 1 ∧
        KeepsSzap s t ∧ t.sp = s.sp ∧ Frame [.a] [] s t))

/-- R196 to R198. -/
def Obligations.CmaCmcStcComplementAndSet : Prop :=
  ∀ s : State,
    Coded .cma [0b00101111#8] 4 ∧ Coded .cmc [0b00111111#8] 4 ∧ Coded .stc [0b00110111#8] 4 ∧
    WrapFaults .cma s ∧ WrapFaults .cmc s ∧ WrapFaults .stc s ∧
    (Fits s 1 →
      (∃ t, exec .cma s = .next t ∧ t.pc = s.pc + 1 ∧ (∀ k < 8, t.a.getLsbD k = !s.a.getLsbD k) ∧
        t.flags = s.flags ∧ t.sp = s.sp ∧ Frame [.a] [] s t) ∧
      (∃ t, exec .cmc s = .next t ∧ t.pc = s.pc + 1 ∧ t.flags.cy = !s.flags.cy ∧ KeepsSzap s t ∧ t.sp = s.sp ∧
        Frame [] [] s t) ∧
      (∃ t, exec .stc s = .next t ∧ t.pc = s.pc + 1 ∧ t.flags.cy = true ∧ KeepsSzap s t ∧ t.sp = s.sp ∧
        Frame [] [] s t))

/-! ## Branch (43_branch.md) -/

/-- R210 to R213, 10 rows: a condition reads the flag that the two upper bits of its code select (Z, CY, P, S) and holds
when that flag equals the lowest bit. -/
def Obligations.JumpsTransfer : Prop :=
  ∀ s : State,
    (∀ cond : Cond, cond.holds s.flags = (cond.code.getLsbD 0 ==
      match cond.code.extractLsb' 1 2 with
      | 0b00#2 => s.flags.z
      | 0b01#2 => s.flags.cy
      | 0b10#2 => s.flags.p
      | _ => s.flags.s)) ∧
    (∀ a16 : Word, Coded (.jmp a16) [0b11000011#8, a16.extractLsb' 0 8, a16.extractLsb' 8 8] 10 ∧
      WrapFaults (.jmp a16) s ∧
      (Fits s 3 → ∃ t, exec (.jmp a16) s = .next t ∧ t.pc = a16 ∧ t.sp = s.sp ∧ t.flags = s.flags ∧ Frame [] [] s t)) ∧
    (∀ (cond : Cond) (a16 : Word),
      Coded (Form.jump cond a16) [0b11#2 ++ cond.code ++ 0b010#3, a16.extractLsb' 0 8, a16.extractLsb' 8 8] 10 ∧
      WrapFaults (Form.jump cond a16) s ∧
      (Fits s 3 → ∃ t, exec (Form.jump cond a16) s = .next t ∧
        t.pc = (if cond.holds s.flags then a16 else s.pc + 3) ∧ t.sp = s.sp ∧ t.flags = s.flags ∧ Frame [] [] s t)) ∧
    Coded .pchl [0b11101001#8] 5 ∧ WrapFaults .pchl s ∧
    (Fits s 1 → ∃ t, exec .pchl s = .next t ∧ t.pc = s.h ++ s.l ∧ t.sp = s.sp ∧ t.flags = s.flags ∧ Frame [] [] s t)

/-- R210, R214, R215 and R65: the address after the call is pushed, low byte at SP - 2; a call not taken only goes on. Where
SP is 0 both stack addresses lie outside, and that the fault records SP - 2 is the model's reading (DEDUCED, log entry
10). -/
def Obligations.CallsPushTheReturnAddress : Prop :=
  ∀ (a16 : Word) (s : State),
    let Called (i : Instr) : Prop := (PushFits s → ∃ t, exec i s = .next t ∧ t.pc = a16 ∧ t.sp = s.sp - 2 ∧
      t.readByte (s.sp - 2) = (s.pc + 3).extractLsb' 0 8 ∧ t.readByte (s.sp - 1) = (s.pc + 3).extractLsb' 8 8 ∧
      t.flags = s.flags ∧ Frame [] [s.sp - 2, s.sp - 1] s t) ∧ PushFaults i s
    Coded (.call a16) [0b11001101#8, a16.extractLsb' 0 8, a16.extractLsb' 8 8] 17 ∧ WrapFaults (.call a16) s ∧
    (Fits s 3 → Called (.call a16)) ∧
    ∀ cond : Cond,
      Coded (Form.callIf cond a16) [0b11#2 ++ cond.code ++ 0b100#3, a16.extractLsb' 0 8, a16.extractLsb' 8 8] 17 ∧
      WrapFaults (Form.callIf cond a16) s ∧
      (Fits s 3 → cond.holds s.flags = true → Called (Form.callIf cond a16)) ∧
      (Fits s 3 → cond.holds s.flags = false → ∃ t, exec (Form.callIf cond a16) s = .next t ∧ t.pc = s.pc + 3 ∧
        t.sp = s.sp ∧ t.flags = s.flags ∧ Frame [] [] s t)

/-- R210, R216, R217 and R66: PC gets the word at SP; a return not taken only goes on; IE is not changed. Where SP is 0xFFFF
both SP + 1 and SP + 2 lie outside, and that the fault records 0x10000 is the model's reading (DEDUCED, log entry 10). -/
def Obligations.ReturnsPopThePc : Prop :=
  ∀ s : State,
    let Returned (i : Instr) : Prop := (PopFits s → ∃ t, exec i s = .next t ∧
      t.pc = s.readByte (s.sp + 1) ++ s.readByte s.sp ∧ t.sp = s.sp + 2 ∧ t.flags = s.flags ∧ Frame [] [] s t) ∧
      PopFaults i s
    Coded .ret [0b11001001#8] 10 ∧ WrapFaults .ret s ∧ (Fits s 1 → Returned .ret) ∧
    ∀ cond : Cond,
      Coded (Form.returnIf cond) [0b11#2 ++ cond.code ++ 0b000#3] 11 ∧ WrapFaults (Form.returnIf cond) s ∧
      (Fits s 1 → cond.holds s.flags = true → Returned (Form.returnIf cond)) ∧
      (Fits s 1 → cond.holds s.flags = false → ∃ t, exec (Form.returnIf cond) s = .next t ∧ t.pc = s.pc + 1 ∧
        t.sp = s.sp ∧ t.flags = s.flags ∧ Frame [] [] s t)

/-- R218, 8 rows: the call of `n * 8`; IE is not changed. Where SP is 0 both stack addresses lie outside, and that the fault
records SP - 2 is the model's reading (DEDUCED, log entry 10). -/
def Obligations.RstCallsItsVector : Prop :=
  ∀ (n : Fin 8) (s : State),
    Coded (Form.rst n) [0b11#2 ++ BitVec.ofNat 3 n ++ 0b111#3] 11 ∧ WrapFaults (Form.rst n) s ∧
    (Fits s 1 → PushFits s → ∃ t, exec (Form.rst n) s = .next t ∧ t.pc = BitVec.ofNat 16 (n * 8) ∧ t.sp = s.sp - 2 ∧
      t.readByte (s.sp - 2) = (s.pc + 1).extractLsb' 0 8 ∧ t.readByte (s.sp - 1) = (s.pc + 1).extractLsb' 8 8 ∧
      t.flags = s.flags ∧ Frame [] [s.sp - 2, s.sp - 1] s t) ∧
    (Fits s 1 → PushFaults (Form.rst n) s)

/-! ## Stack, I/O and control (44_stack_io_control.md) and the fallback (45_undocumented.md) -/

/-- R230 (3 rows) and R231: the high register or A at SP - 1, the low register or the packed flags (bits 7, 6, 4, 2, 0, and
the constant 1 in bit 1) at SP - 2. Where SP is 0 both stack addresses lie outside, and that the fault records SP - 2 is
the model's reading (DEDUCED, log entry 10). -/
def Obligations.PushStoresAPair : Prop :=
  ∀ s : State,
    let Pushed (i : Instr) (high low : Byte) : Prop := (PushFits s → ∃ t, exec i s = .next t ∧ t.pc = s.pc + 1 ∧
      t.sp = s.sp - 2 ∧ t.readByte (s.sp - 1) = high ∧ t.readByte (s.sp - 2) = low ∧ t.flags = s.flags ∧
      Frame [] [s.sp - 2, s.sp - 1] s t) ∧ PushFaults i s
    (∀ p : StackPair, Coded (Form.push p) [0b11#2 ++ p.pair.code ++ 0b0101#4] 11 ∧ WrapFaults (Form.push p) s ∧
      (Fits s 1 → Pushed (Form.push p) (s.reg p.halves.1) (s.reg p.halves.2))) ∧
    Coded .pushPsw [0b11110101#8] 11 ∧ WrapFaults .pushPsw s ∧
    (Fits s 1 → Pushed .pushPsw s.a (BitVec.ofNat 8 (128 * s.flags.s.toNat + 64 * s.flags.z.toNat +
      16 * s.flags.ac.toNat + 4 * s.flags.p.toNat + 2 + s.flags.cy.toNat)))

/-- R232, 3 rows: the low register from SP, the high register from SP + 1. -/
def Obligations.PopLoadsAPair : Prop :=
  ∀ (p : StackPair) (s : State),
    Coded (Form.pop p) [0b11#2 ++ p.pair.code ++ 0b0001#4] 10 ∧ WrapFaults (Form.pop p) s ∧
    (Fits s 1 → PopFits s → ∃ t, exec (Form.pop p) s = .next t ∧ t.pc = s.pc + 1 ∧ t.sp = s.sp + 2 ∧
      t.reg p.halves.1 = s.readByte (s.sp + 1) ∧ t.reg p.halves.2 = s.readByte s.sp ∧ t.flags = s.flags ∧
      Frame [p.halves.1, p.halves.2] [] s t) ∧
    (Fits s 1 → PopFaults (Form.pop p) s)

/-- R233: A from SP + 1, the five flags from bits 7, 6, 4, 2, 0 of the byte at SP. Where SP is 0xFFFF both SP + 1 and SP + 2
lie outside, and that the fault records 0x10000 is the model's reading (DEDUCED, log entry 10). -/
def Obligations.PopPswLoadsAccumulatorAndFlags : Prop :=
  ∀ s : State,
    Coded .popPsw [0b11110001#8] 10 ∧ WrapFaults .popPsw s ∧
    (Fits s 1 → PopFits s → ∃ t, exec .popPsw s = .next t ∧ t.pc = s.pc + 1 ∧ t.sp = s.sp + 2 ∧
      t.a = s.readByte (s.sp + 1) ∧ t.flags.s = (s.readByte s.sp).getLsbD 7 ∧
      t.flags.z = (s.readByte s.sp).getLsbD 6 ∧ t.flags.ac = (s.readByte s.sp).getLsbD 4 ∧
      t.flags.p = (s.readByte s.sp).getLsbD 2 ∧ t.flags.cy = (s.readByte s.sp).getLsbD 0 ∧ Frame [.a] [] s t) ∧
    (Fits s 1 → PopFaults .popPsw s)

/-- R234: HL and the word at SP change places; SP is unchanged. -/
def Obligations.XthlExchangesTheStackTop : Prop :=
  ∀ s : State,
    Coded .xthl [0b11100011#8] 18 ∧ WrapFaults .xthl s ∧
    (Fits s 1 → WordFits s s.sp → ∃ t, exec .xthl s = .next t ∧ t.pc = s.pc + 1 ∧ t.l = s.readByte s.sp ∧
      t.h = s.readByte (s.sp + 1) ∧ t.readByte s.sp = s.l ∧ t.readByte (s.sp + 1) = s.h ∧ t.sp = s.sp ∧
      t.flags = s.flags ∧ Frame [.h, .l] [s.sp, s.sp + 1] s t) ∧
    (Fits s 1 → ¬ WordFits s s.sp → exec .xthl s = .fault (.addressWrap s.pc 0x10000))

/-- R236: A gets the byte of one call of the input handler, a free value; the mirror is not touched. -/
def Obligations.InReadsTheHandler : Prop :=
  ∀ (port : Byte) (s : State),
    Coded (.inPort port) [0b11011011#8, port] 10 ∧ WrapFaults (.inPort port) s ∧
    (Fits s 2 → s.inHandler = true → ∃ t, exec (.inPort port) s = .next t ∧ t.pc = s.pc + 2 ∧
      t.a = Config.inputByte s.inDraws port ∧ t.inDraws = s.inDraws + 1 ∧ t.events = s.events ++ [.input port t.a] ∧
      t.ports = s.ports ∧ t.inHandler = s.inHandler ∧ t.outHandler = s.outHandler ∧ t.sp = s.sp ∧
      t.flags = s.flags ∧ KeepsRegs [.a] s t ∧ KeepsMemory [] s t ∧ KeepsInterrupts s t ∧ KeepsEngine s t) ∧
    (Fits s 2 → s.inHandler = false → exec (.inPort port) s = .fault (.missingHandler s.pc port))

/-- R238: the mirror slot gets A with a zero high byte, then one call of the output handler. -/
def Obligations.OutWritesTheMirror : Prop :=
  ∀ (port : Byte) (s : State),
    Coded (.outPort port) [0b11010011#8, port] 10 ∧ WrapFaults (.outPort port) s ∧
    (Fits s 2 → s.outHandler = true → ∃ t, exec (.outPort port) s = .next t ∧ t.pc = s.pc + 2 ∧
      t.ports.read port = 0x00#8 ++ s.a ∧ (∀ q, q ≠ port → t.ports.read q = s.ports.read q) ∧
      t.events = s.events ++ [.output port s.a] ∧ t.inDraws = s.inDraws ∧ t.inHandler = s.inHandler ∧
      t.outHandler = s.outHandler ∧ t.sp = s.sp ∧ t.flags = s.flags ∧ KeepsRegs [] s t ∧ KeepsMemory [] s t ∧
      KeepsInterrupts s t ∧ KeepsEngine s t) ∧
    (Fits s 2 → s.outHandler = false → exec (.outPort port) s = .fault (.missingHandler s.pc port))

/-- R240 and 60_exceptions.md R282: with nothing pending IE is set; a pending request is delivered in the same step, with
the address after EI as return address; the entry ends the halted state (R282) and IE ends 0. Where SP is 0 both stack
addresses lie outside, and that the fault records SP - 2 is the model's reading (DEDUCED, log entry 10). -/
def Obligations.EiEnablesAndDelivers : Prop :=
  ∀ s : State,
    Coded .ei [0b11111011#8] 4 ∧ WrapFaults .ei s ∧
    (Fits s 1 → s.pend.getLsbD 7 = false → ∃ t, exec .ei s = .next t ∧ t.pc = s.pc + 1 ∧ t.ie = true ∧
      t.pend = s.pend ∧ t.halt = s.halt ∧ t.sp = s.sp ∧ t.flags = s.flags ∧ KeepsRegs [] s t ∧ KeepsMemory [] s t ∧
      KeepsEngine s t ∧ KeepsIo s t) ∧
    (Fits s 1 → s.pend.getLsbD 7 = true → PushFits s → ∃ t, exec .ei s = .next t ∧
      t.pc = BitVec.ofNat 16 (s.pend.toNat % 128 * 8) ∧ t.ie = false ∧ t.pend = 0 ∧ t.halt = false ∧ t.sp = s.sp - 2 ∧
      t.readByte (s.sp - 2) = (s.pc + 1).extractLsb' 0 8 ∧ t.readByte (s.sp - 1) = (s.pc + 1).extractLsb' 8 8 ∧
      t.budget = s.budget - 11 ∧ t.lastop = s.lastop ∧ t.params = s.params ∧ t.faultRec = s.faultRec ∧
      t.flags = s.flags ∧ KeepsRegs [] s t ∧ KeepsMemory [s.sp - 2, s.sp - 1] s t ∧ KeepsIo s t) ∧
    (Fits s 1 → s.pend.getLsbD 7 = true → PushFaults .ei s)

/-- R241, R242 and R248. -/
def Obligations.DiNopHltControlTheCore : Prop :=
  ∀ s : State,
    Coded .di [0b11110011#8] 4 ∧ Coded .nop [0b00000000#8] 4 ∧ Coded .hlt [0b01110110#8] 7 ∧
    WrapFaults .di s ∧ WrapFaults .nop s ∧ WrapFaults .hlt s ∧
    (Fits s 1 →
      (∃ t, exec .di s = .next t ∧ t.pc = s.pc + 1 ∧ t.ie = false ∧ t.pend = s.pend ∧ t.halt = s.halt ∧ t.sp = s.sp ∧
        t.flags = s.flags ∧ KeepsRegs [] s t ∧ KeepsMemory [] s t ∧ KeepsEngine s t ∧ KeepsIo s t) ∧
      (∃ t, exec .nop s = .next t ∧ t.pc = s.pc + 1 ∧ t.sp = s.sp ∧ t.flags = s.flags ∧ Frame [] [] s t) ∧
      (∃ t, exec .hlt s = .next t ∧ t.pc = s.pc + 1 ∧ t.halt = true ∧ t.ie = s.ie ∧ t.pend = s.pend ∧ t.sp = s.sp ∧
        t.flags = s.flags ∧ KeepsRegs [] s t ∧ KeepsMemory [] s t ∧ KeepsEngine s t ∧ KeepsIo s t))

/-- R260 and R261, 12 rows: PC advances by one byte and no state of the machine changes; the model's trace gets the
diagnostic (log entry 4). -/
def Obligations.UndocumentedSlotsFallBack : Prop :=
  ∀ (i : Instr) (op : Byte) (s : State), (i, op) ∈ Form.undocumented →
    Coded i [op] 4 ∧ WrapFaults i s ∧
    (Fits s 1 → ∃ t, exec i s = .next t ∧ t.pc = s.pc + 1 ∧ t.sp = s.sp ∧ t.flags = s.flags ∧ KeepsRegs [] s t ∧
      KeepsMemory [] s t ∧ KeepsInterrupts s t ∧ KeepsEngine s t ∧ t.ports = s.ports ∧ t.inHandler = s.inHandler ∧
      t.outHandler = s.outHandler ∧ t.inDraws = s.inDraws ∧ t.events = s.events ++ [.undocumented s.pc op])

/-! ## The step (30_encoding.md R100, 44_stack_io_control.md R249) -/

/-- R100 and 70_reset_and_hazards.md R320: where the bytes at PC decode to `i` and its operand addresses can be formed, a
step writes LASTOP, runs `i`, and charges the cost of the opcode byte. -/
def Obligations.StepRunsTheDecodedInstruction : Prop :=
  ∀ (s : State) (i : Instr) (rest : List Byte), s.faultRec = none → s.halt = false →
    decode [s.readByte s.pc, s.readByte (s.pc + 1), s.readByte (s.pc + 2)] = .ok (i, rest) →
    Addressable s.params.wrapPolicy ((s.pc.toNat : Int) + i.length - 1) →
    step s = match exec i { s with lastop := s.readByte s.pc } with
      | .next t => .next { t with budget := t.budget - s.params.cycleCost (s.readByte s.pc) }
      | .fault f => .fault f
      | .refused r => .refused r

/-- R100 and 20_memory.md R64: an operand byte past the top of memory faults at the fetch, before the instruction runs.
Where both operand bytes of a three-byte instruction lie outside, that the fault records the first, 0x10000, is the
model's reading (DEDUCED, log entry 10). -/
def Obligations.OperandPastTheTopFaults : Prop :=
  ∀ s : State, s.faultRec = none → s.halt = false →
    ¬ Addressable s.params.wrapPolicy ((s.pc.toNat : Int) + lengthOf (s.readByte s.pc) - 1) →
    step s = .fault (.addressWrap s.pc 0x10000)

/-- R249: a halted step fetches nothing and changes nothing but the budget, by `CYCLE_COST[0x76]`, which is 7 by default. -/
def Obligations.HaltedStepIdles : Prop :=
  defaultParams.cycleCost 0x76 = 7 ∧
  ∀ s : State, s.faultRec = none → s.halt = true →
    step s = .next { s with budget := s.budget - s.params.cycleCost 0x76 }

/-! ## Interrupts (60_exceptions.md) -/

/-- R281, R282: entry with interrupts enabled, and its stack fault. Where SP is 0 both stack addresses lie outside, and that
the fault records SP - 2 is the model's reading (DEDUCED, log entry 10). -/
def Obligations.RaiseInterruptEnters : Prop :=
  ∀ (id : Nat) (s : State), id < 8 → s.ie = true →
    (PushFits s → ∃ t, raiseInterrupt id s = .next t ∧ t.pc = BitVec.ofNat 16 (id * 8) ∧ t.ie = false ∧
      t.halt = false ∧ t.pend = s.pend ∧ t.sp = s.sp - 2 ∧ t.readByte (s.sp - 2) = s.pc.extractLsb' 0 8 ∧
      t.readByte (s.sp - 1) = s.pc.extractLsb' 8 8 ∧ t.budget = s.budget - 11 ∧ t.lastop = s.lastop ∧
      t.params = s.params ∧ t.faultRec = s.faultRec ∧ t.flags = s.flags ∧ KeepsRegs [] s t ∧
      KeepsMemory [s.sp - 2, s.sp - 1] s t ∧ KeepsIo s t) ∧
    (¬ PushFits s → raiseInterrupt id s = .fault (.addressWrap s.pc ((s.sp.toNat : Int) - 2)))

/-- R281, R283 and R271 (a): with interrupts disabled the id goes to PEND, replacing one that is there, and nothing else
changes; an id outside 0 to 7 is refused. -/
def Obligations.RaiseInterruptDefersOrRefuses : Prop :=
  ∀ (id : Nat) (s : State),
    (id < 8 → s.ie = false → raiseInterrupt id s = .next { s with pend := BitVec.ofNat 8 (128 + id) }) ∧
    (8 ≤ id → raiseInterrupt id s = .refused (.interruptId id))

/-- R286: a RET right after an interrupt entry returns to the interrupted address with SP restored and IE still 0. -/
def Obligations.InterruptThenRetReturns : Prop :=
  ∀ (id : Nat) (s t : State), id < 8 → s.ie = true → raiseInterrupt id s = .next t →
    ∃ u, exec .ret t = .next u ∧ u.pc = s.pc ∧ u.sp = s.sp ∧ u.ie = false ∧ u.flags = s.flags

/-! ## Memory, views and the stack (10_state.md, 20_memory.md) -/

/-- 20_memory.md R67: a push that does not fault is undone by a pop. -/
def Obligations.PushThenPopRoundTrips : Prop :=
  ∀ (pc0 v : Word) (s t : State), push16 pc0 s v = .ok t → ∃ u, pop16 pc0 t = .ok (v, u) ∧ u.sp = s.sp

/-- 10_state.md R22, R23, R32, R33: the pair views follow the halves and back, and the packed byte holds the five flags
at bits 7, 6, 4, 2 and 0 and reads its bits 5, 3 and 1 as 0, 0 and 1 whatever was unpacked. -/
def Obligations.RegisterAndFlagViewsAgree : Prop :=
  (∀ (s : State) (p : StackPair), s.pair p.pair = s.reg p.halves.1 ++ s.reg p.halves.2) ∧
  (∀ (s : State) (pair : Pair) (v : Word), (s.setPair pair v).pair pair = v) ∧
  (∀ (s : State) (p : StackPair) (v : Word), (s.setPair p.pair v).reg p.halves.1 = v.extractLsb' 8 8 ∧
    (s.setPair p.pair v).reg p.halves.2 = v.extractLsb' 0 8) ∧
  (∀ (s : State) (p : StackPair) (v : Byte),
    (s.setReg p.halves.1 v).pair p.pair = v ++ s.reg p.halves.2 ∧
    (s.setReg p.halves.2 v).pair p.pair = s.reg p.halves.1 ++ v) ∧
  (∀ f : Flags, f.pack.toNat =
    128 * f.s.toNat + 64 * f.z.toNat + 16 * f.ac.toNat + 4 * f.p.toNat + 2 + f.cy.toNat) ∧
  (∀ f : Flags, Flags.unpack f.pack = f) ∧ ∀ v : Byte, (Flags.unpack v).pack = (v &&& 0b11010111#8) ||| 0b00000010#8

/-! ## Reset, loading and the execution loop (70_reset_and_hazards.md, 20_memory.md R75) -/

/-- R310, R311 and 10_state.md R48: `reset()` between updates, whatever the prior state; a refusal while one is in
flight. SP and the bootstrap byte are the parameters `RESET_SP` and `BOOT_OPCODE`, by default 0xFFFF and 0xC3. The fault
record, the handlers and the parameters stay. -/
def Obligations.ResetRestoresTheResetState : Prop :=
  defaultParams.resetSp = 0xFFFF ∧ defaultParams.bootOpcode = 0xC3 ∧
  ∀ s : State, serve true .reset s = .refused .updateInFlight ∧
    ∃ t, serve false .reset s = .next (t, .done) ∧ (∀ r, t.reg r = 0) ∧ t.pc = 0 ∧ t.sp = s.params.resetSp ∧
      t.flags.s = false ∧ t.flags.z = false ∧ t.flags.ac = false ∧ t.flags.p = false ∧ t.flags.cy = false ∧
      t.ie = false ∧ t.pend = 0 ∧ t.halt = false ∧ t.budget = 0 ∧ t.lastop = 0 ∧
      (∀ a : Word, t.readByte a = if a = 1 then s.params.bootOpcode else 0) ∧ (∀ p, t.ports.read p = 0) ∧
      t.inHandler = s.inHandler ∧ t.outHandler = s.outHandler ∧ t.params = s.params ∧ t.faultRec = s.faultRec

/-- 20_memory.md R75: an image that fits is copied, over memory cleared first if so asked, and nothing else changes; one
that does not fit, or cannot be read, changes nothing. -/
def Obligations.LoadImageCopiesOrFails : Prop :=
  ∀ (bytes : List Byte) (address : Word) (clear : Bool) (s : State),
    loadImage none address clear s = (s, false) ∧
    (65536 < address.toNat + bytes.length → loadImage (some bytes) address clear s = (s, false)) ∧
    (address.toNat + bytes.length ≤ 65536 → ∃ t m, loadImage (some bytes) address clear s = (t, true) ∧
      t = { s with mem := m } ∧
      (∀ a : Word, address.toNat ≤ a.toNat → a.toNat < address.toNat + bytes.length →
        t.readByte a = bytes.getD (a.toNat - address.toNat) 0) ∧
      ∀ a : Word, a.toNat < address.toNat ∨ address.toNat + bytes.length ≤ a.toNat →
        t.readByte a = if clear then 0 else s.readByte a)

/-- R320: an `update` that answers a count of cycles has run at least one step, has stopped at the first step that
brought the budget to zero or below, and answers what it took off the budget. -/
def Obligations.UpdateStepsUntilTheBudgetIsSpent : Prop :=
  ∀ (n cycles : Int) (s t : State), 0 < n → update n s = .next (t, .consumed cycles) →
    cycles = n - t.budget ∧ t.budget ≤ 0 ∧
    ∃ k, core.run (k + 1) { s with budget := n } = .next t ∧
      ∀ j, j ≤ k → ∃ u : State, core.run j { s with budget := n } = .next u ∧ 0 < u.budget

/-- R322 and R12: `update(n)` for n > 0 on a machine that has not faulted ends either in a fault or, after at least one
step, with a count of at least n and less than n + 18. This holds of the default parameters, and of any in which no charge
of a step is 0 or above `MAX_COST` (log entry 19), an invariant. -/
def Obligations.UpdateConsumesWithinBounds : Prop :=
  defaultParams.wf = true ∧ ∀ (n : Int) (s : State), s.params.wf = true → 0 < n → s.faultRec = none →
    (∃ (t : State) (cycles : Int) (k : Nat), update n s = .next (t, .consumed cycles) ∧
      core.run (k + 1) { s with budget := n } = .next t ∧ n ≤ cycles ∧ cycles < n + 18) ∨
    ∃ t f, update n s = .next (t, .faulted f)

/-- R321: a budget that is not positive is an error and changes nothing. -/
def Obligations.UpdateRejectsNonPositiveBudgets : Prop :=
  ∀ (n : Int) (s : State), n ≤ 0 → update n s = .next (s, .preconditionViolation)

/-- R324: a halted `update` consumes a multiple of `CYCLE_COST[0x76]`, 7 by default: the budget rounded up; it changes
nothing else. -/
def Obligations.HaltedUpdateIdles : Prop :=
  defaultParams.cycleCost 0x76 = 7 ∧
  ∀ (n : Int) (s : State), 0 < n → s.faultRec = none → s.halt = true → 0 < s.params.cycleCost 0x76 →
    let c : Int := s.params.cycleCost 0x76
    update n s = .next ({ s with budget := n - c * ((n + c - 1) / c) }, .consumed (c * ((n + c - 1) / c)))

/-- R323 and 20_memory.md R64: a fault ends an `update`; the steps before it keep their effects, the faulting step writes
nothing but LASTOP, and no later step or `update` runs. -/
def Obligations.FaultEndsTheUpdate : Prop :=
  ∀ (n : Int) (s t : State) (f : Fault), 0 < n → s.faultRec = none → update n s = .next (t, .faulted f) →
    (∃ (k : Nat) (u : State), core.run k { s with budget := n } = .next u ∧ step u = .fault f ∧
      t = { u with lastop := u.readByte u.pc, faultRec := some f }) ∧
    step t = .fault f ∧ ∀ m : Int, 0 < m → update m t = .next (t, .faulted f)

/-- 60_exceptions.md R300, with 70_reset_and_hazards.md R325: by default every opcode byte costs from 4 to 18 cycles; where
the parameters are well-formed none costs 0, so `update(1)` runs exactly one step. -/
def Obligations.UpdateOneRunsOneStep : Prop :=
  (∀ op : Byte, 4 ≤ defaultParams.cycleCost op ∧ defaultParams.cycleCost op ≤ 18) ∧
  ∀ s t : State, s.params.wf = true → s.faultRec = none → step { s with budget := 1 } = .next t →
    update 1 s = .next (t, .consumed (1 - t.budget))

/-! ## Rules of the whole machine -/

/-- 10_state.md R35: an instruction outside a flag's group leaves the flag as it was. -/
def Obligations.OnlyNamedInstructionsWriteFlags : Prop :=
  ∀ (i : Instr) (s t : State), exec i s = .next t →
    (writesSzap i.opcode = false → KeepsSzap s t) ∧ (writesCy i.opcode = false → t.flags.cy = s.flags.cy)

/-- 10_state.md R25: an instruction outside a register's row of the table leaves the register as it was. -/
def Obligations.OnlyNamedInstructionsWriteRegisters : Prop :=
  ∀ (i : Instr) (s t : State), exec i s = .next t →
    (∀ r, writesReg r i.opcode = false → t.reg r = s.reg r) ∧ (writesSp i.opcode = false → t.sp = s.sp)

/-- 10_state.md R36 to R38, R41, R45 and 20_memory.md R69: only EI and DI write IE, only EI writes PEND and the budget, only
HLT and EI write HALT, only OUT writes the mirror, and only the storing instructions write memory; none writes LASTOP,
the parameters, the handlers or the fault record. -/
def Obligations.OnlyNamedInstructionsWriteTheRest : Prop :=
  ∀ (i : Instr) (s t : State), exec i s = .next t →
    (i ≠ .ei → i ≠ .di → t.ie = s.ie) ∧ (i ≠ .ei → t.pend = s.pend ∧ t.budget = s.budget) ∧
    (i ≠ .ei → i ≠ .hlt → t.halt = s.halt) ∧ ((∀ port, i ≠ .outPort port) → t.ports = s.ports) ∧
    (writesMemory i.opcode = false → t.mem = s.mem) ∧ t.lastop = s.lastop ∧ t.params = s.params ∧
    t.inHandler = s.inHandler ∧ t.outHandler = s.outHandler ∧ t.faultRec = s.faultRec

/-- Every step keeps the invariant (10_state.md R37, R39, R42, R45; 44_stack_io_control.md R238). -/
def Obligations.EveryStepKeepsTheInvariant : Prop :=
  ∀ s t : State, Safety.Inv s → step s = .next t → Safety.Inv t

/-- The invariant holds after reset, and after construction with any well-formed parameters. -/
def Obligations.InvariantHoldsAtReset : Prop :=
  Safety.Inv State.reset ∧ ∀ p : Params, p.wf = true → Safety.Inv (construct p)

/-- 10_state.md R39: in every reachable state a pending request means that interrupts are disabled. -/
def Obligations.PendingImpliesDisabled : Prop := ∀ s : State, Reachable s → s.pend ≠ 0 → s.ie = false
end

