-- ==== Sys2Proof/Laws/Decode.lean ====
section
/-! SUPPORT. The decoder by the length of the opcode byte: what it reads, and that a length is 1, 2 or 3
(30_encoding.md R90 to R92). -/

namespace Sys2Proof

theorem decode_of_length_one {op : Byte} (rest : List Byte) (h : lengthOf op = 1) :
    decode (op :: rest) = .ok (instrOf op 0 0, rest) := by
  simp only [decode, h]

theorem decode_of_length_two {op : Byte} (d8 : Byte) (rest : List Byte) (h : lengthOf op = 2) :
    decode (op :: d8 :: rest) = .ok (instrOf op d8 0, rest) := by
  simp only [decode, h]

/-- The low byte of a 16-bit operand comes first (30_encoding.md R92). -/
theorem decode_of_length_three {op : Byte} (lo hi : Byte) (rest : List Byte) (h : lengthOf op = 3) :
    decode (op :: lo :: hi :: rest) = .ok (instrOf op 0 (wordOf hi lo), rest) := by
  simp only [decode, h]

/-- An instruction has 1, 2 or 3 bytes (30_encoding.md R90). -/
theorem lengthOf_cases (op : Byte) : lengthOf op = 1 ∨ lengthOf op = 2 ∨ lengthOf op = 3 := by
  revert op; decide +kernel

end Sys2Proof
end

