-- ==== Sys2Proof/Laws/Flags.lean ====
section
/-! SUPPORT. The flag computations in the terms of the rules' prose: parity as a count of bits, subtraction and its borrows,
decimal adjust, and the rotates. -/

namespace Sys2Proof.Machine

open Sys2Proof.Safety

theorem evenParity_iff (r : Byte) :
    evenParity r = true ↔ ((List.range 8).countP fun k => r.getLsbD k) % 2 = 0 := by
  revert r; decide +kernel

/-- S, Z and P of `flagsOf` come from its result (10_state.md R31). -/
theorem szpFrom_flagsOf (r : Byte) (ac cy : Bool) : SzpFrom r (flagsOf r ac cy) :=
  ⟨rfl, decide_eq_true_iff, evenParity_iff r⟩

/-- S, Z and P of `setSzp` come from its result (10_state.md R31). -/
theorem szpFrom_setSzp (f : Flags) (r : Byte) : SzpFrom r (f.setSzp r) :=
  ⟨rfl, decide_eq_true_iff, evenParity_iff r⟩

theorem szpFrom_increment (f : Flags) (v : Byte) : SzpFrom (v + 1) (f.increment v) :=
  ⟨rfl, decide_eq_true_iff, evenParity_iff _⟩

theorem szpFrom_decrement (f : Flags) (v : Byte) : SzpFrom (v - 1) (f.decrement v) :=
  ⟨rfl, decide_eq_true_iff, evenParity_iff _⟩

theorem add8_r (a b : Byte) (cin : Bool) : (add8 a b cin).r = a + b + (if cin then 1 else 0) := by
  apply BitVec.eq_of_toNat_eq
  cases cin <;> simp [add8]

theorem toNat_not (b : Byte) : (~~~b).toNat = 255 - b.toNat := by
  simp [BitVec.toNat_not]

/-- The result of `sub8` is the difference modulo 256 (41_arithmetic.md R141). -/
theorem sub8_r (a b : Byte) (bin : Bool) : (sub8 a b bin).r = a - b - (if bin then 1 else 0) := by
  apply BitVec.eq_of_toNat_eq
  have ha := a.isLt; have hb := b.isLt
  have hn := toNat_not b
  cases bin <;> simp [sub8, add8, BitVec.toNat_sub, -BitVec.toNat_not, hn] <;> omega

/-- CY of `sub8` is the borrow (41_arithmetic.md R141). -/
theorem sub8_cy (a b : Byte) (bin : Bool) : (sub8 a b bin).cy = true ↔ a.toNat < b.toNat + bin.toNat := by
  have ha := a.isLt; have hb := b.isLt
  have hn := toNat_not b
  cases bin <;> simp [sub8, add8, -BitVec.toNat_not, hn] <;> omega

/-- AC of `sub8` is the inverse of the borrow out of the low nibble (41_arithmetic.md R141). -/
theorem sub8_ac (a b : Byte) (bin : Bool) :
    (sub8 a b bin).ac = true ↔ b.toNat % 16 + bin.toNat ≤ a.toNat % 16 := by
  have ha := a.isLt; have hb := b.isLt
  have hn := toNat_not b
  cases bin <;> simp [sub8, add8, -BitVec.toNat_not, hn] <;> omega

end Sys2Proof.Machine
end

