-- ==== Sys2Proof/Laws/Forms.lean ====
section
/-! SUPPORT. What `exec` runs for each instruction form, and the bytes of each form: one lemma per form, so that a proof
about a family unfolds no dispatch. -/

namespace Sys2Proof.Machine

theorem exec_mov (dst src : Reg) (s : State) :
    exec (Form.mov dst src) s = movReg dst src s := by cases dst <;> cases src <;> rfl
theorem exec_movFromM (dst : Reg) (s : State) : exec (Form.movFromM dst) s = movFromM dst s := by cases dst <;> rfl
theorem exec_movToM (r : Reg) (s : State) : exec (Form.movToM r) s = movToM r s := by cases r <;> rfl
theorem exec_mvi (dst : Reg) (v : Byte) (s : State) : exec (Form.mvi dst v) s = mviReg dst v s := by cases dst <;> rfl
theorem exec_lxi (p : Pair) (v : Word) (s : State) : exec (Form.lxi p v) s = lxiPair p v s := by cases p <;> rfl
theorem exec_ldax (p : IndirectPair) (s : State) : exec (Form.ldax p) s = loadA 1 (s.pair p.pair) s := by cases p <;> rfl
theorem exec_stax (p : IndirectPair) (s : State) : exec (Form.stax p) s = storeA 1 (s.pair p.pair) s := by cases p <;> rfl
theorem exec_inr (dst : Reg) (s : State) : exec (Form.inr dst) s = inrReg dst s := by cases dst <;> rfl
theorem exec_dcr (dst : Reg) (s : State) : exec (Form.dcr dst) s = dcrReg dst s := by cases dst <;> rfl
theorem exec_inx (p : Pair) (s : State) : exec (Form.inx p) s = inxPair p s := by cases p <;> rfl
theorem exec_dcx (p : Pair) (s : State) : exec (Form.dcx p) s = dcxPair p s := by cases p <;> rfl
theorem exec_dad (p : Pair) (s : State) : exec (Form.dad p) s = dadPair p s := by cases p <;> rfl
theorem exec_jump (cond : Cond) (a : Word) (s : State) : exec (Form.jump cond a) s = jumpOn cond a s := by
  cases cond <;> rfl
theorem exec_callIf (cond : Cond) (a : Word) (s : State) : exec (Form.callIf cond a) s = callOn cond a s := by
  cases cond <;> rfl
theorem exec_returnIf (cond : Cond) (s : State) : exec (Form.returnIf cond) s = returnOn cond s := by
  cases cond <;> rfl
theorem exec_rst (n : Fin 8) (s : State) : exec (Form.rst n) s = restart (BitVec.ofNat 8 n) s := by fin_cases n <;> rfl
theorem exec_push (p : StackPair) (s : State) : exec (Form.push p) s = pushValue (s.pair p.pair) s := by cases p <;> rfl
theorem exec_pop (p : StackPair) (s : State) : exec (Form.pop p) s = popPair p.pair s := by cases p <;> rfl

theorem exec_alu_add (x : Src) (s : State) : exec (Form.alu .add x) s = addA x.length (x.value s) false s := by
  rcases x with r | _ | v
  · cases r <;> rfl
  · rfl
  · rfl
theorem exec_alu_adc (x : Src) (s : State) : exec (Form.alu .adc x) s = addA x.length (x.value s) s.flags.cy s := by
  rcases x with r | _ | v
  · cases r <;> rfl
  · rfl
  · rfl
theorem exec_alu_sub (x : Src) (s : State) : exec (Form.alu .sub x) s = subA x.length (x.value s) false s := by
  rcases x with r | _ | v
  · cases r <;> rfl
  · rfl
  · rfl
theorem exec_alu_sbb (x : Src) (s : State) : exec (Form.alu .sbb x) s = subA x.length (x.value s) s.flags.cy s := by
  rcases x with r | _ | v
  · cases r <;> rfl
  · rfl
  · rfl
theorem exec_alu_ana (x : Src) (s : State) : exec (Form.alu .ana x) s = andA x.length (x.value s) s := by
  rcases x with r | _ | v
  · cases r <;> rfl
  · rfl
  · rfl
theorem exec_alu_xra (x : Src) (s : State) : exec (Form.alu .xra x) s = xorA x.length (x.value s) s := by
  rcases x with r | _ | v
  · cases r <;> rfl
  · rfl
  · rfl
theorem exec_alu_ora (x : Src) (s : State) : exec (Form.alu .ora x) s = orA x.length (x.value s) s := by
  rcases x with r | _ | v
  · cases r <;> rfl
  · rfl
  · rfl
theorem exec_alu_cmp (x : Src) (s : State) : exec (Form.alu .cmp x) s = compareA x.length (x.value s) s := by
  rcases x with r | _ | v
  · cases r <;> rfl
  · rfl
  · rfl

theorem exec_undocumented {i : Instr} {op : Byte} (h : (i, op) ∈ Form.undocumented) (s : State) :
    exec i s = fallback op s := by
  have slots : ∀ slot ∈ Form.undocumented, exec slot.1 s = fallback slot.2 s := by
    unfold Form.undocumented
    repeat' refine List.forall_mem_cons.2 ⟨rfl, ?_⟩
    exact List.forall_mem_nil _
  exact slots _ h

/-! The instructions that belong to no form. -/

theorem exec_mviM (v : Byte) (s : State) : exec (.mviM v) s = complete 2 s (s.setM v) := rfl
theorem exec_lda (a : Word) (s : State) : exec (.lda a) s = loadA 3 a s := rfl
theorem exec_sta (a : Word) (s : State) : exec (.sta a) s = storeA 3 a s := rfl
theorem exec_lhld (a : Word) (s : State) : exec (.lhld a) s = execLhld a s := rfl
theorem exec_shld (a : Word) (s : State) : exec (.shld a) s = execShld a s := rfl
theorem exec_xchg (s : State) :
    exec .xchg s = complete 1 s ((s.setPair .hl (s.pair .de)).setPair .de (s.pair .hl)) := rfl
theorem exec_sphl (s : State) : exec .sphl s = complete 1 s (s.setSp s.hl) := rfl
theorem exec_inrM (s : State) :
    exec .inrM s = complete 1 s ((s.setM (s.m + 1)).setFlags (s.flags.increment s.m)) := rfl
theorem exec_dcrM (s : State) :
    exec .dcrM s = complete 1 s ((s.setM (s.m - 1)).setFlags (s.flags.decrement s.m)) := rfl
theorem exec_daa (s : State) : exec .daa s = accumulate 1 (daa8 s.a s.flags.ac s.flags.cy) s := rfl
theorem exec_rlc (s : State) : exec .rlc s = rotateA (rotLeft s.a) s := rfl
theorem exec_rrc (s : State) : exec .rrc s = rotateA (rotRight s.a) s := rfl
theorem exec_ral (s : State) : exec .ral s = rotateA (rotLeftCy s.a s.flags.cy) s := rfl
theorem exec_rar (s : State) : exec .rar s = rotateA (rotRightCy s.a s.flags.cy) s := rfl
theorem exec_cma (s : State) : exec .cma s = complete 1 s (s.setReg .a (~~~s.a)) := rfl
theorem exec_cmc (s : State) : exec .cmc s = complete 1 s (s.setCy (!s.flags.cy)) := rfl
theorem exec_stc (s : State) : exec .stc s = complete 1 s (s.setCy true) := rfl
theorem exec_jmp (a : Word) (s : State) : exec (.jmp a) s = execJmp a s := rfl
theorem exec_pchl (s : State) : exec .pchl s = execPchl s := rfl
theorem exec_call (a : Word) (s : State) : exec (.call a) s = execCall a s := rfl
theorem exec_ret (s : State) : exec .ret s = execRet s := rfl
theorem exec_pushPsw (s : State) : exec .pushPsw s = pushValue (wordOf s.a s.flags.pack) s := rfl
theorem exec_popPsw (s : State) : exec .popPsw s = execPopPsw s := rfl
theorem exec_xthl (s : State) : exec .xthl s = execXthl s := rfl
theorem exec_inPort (port : Byte) (s : State) : exec (.inPort port) s = execInPort port s := rfl
theorem exec_outPort (port : Byte) (s : State) : exec (.outPort port) s = execOutPort port s := rfl
theorem exec_ei (s : State) : exec .ei s = execEi s := rfl
theorem exec_di (s : State) : exec .di s = complete 1 s { s with ie := false } := rfl
theorem exec_nop (s : State) : exec .nop s = complete 1 s s := rfl
theorem exec_hlt (s : State) : exec .hlt s = complete 1 s { s with halt := true } := rfl

end Sys2Proof.Machine
end

