-- ==== Sys2Proof/Laws/Memory.lean ====
section
/-! SUPPORT. The laws of the sparse tables: a read after a write, on any list, and that every operation keeps the
canonical form. -/

namespace Sys2Proof.Machine

variable {α : Type} (unlisted : Nat → α)

theorem Sparse.read_filter_ne (m : List (Nat × α)) (key j : Nat) :
    Sparse.read unlisted (m.filter fun e => e.1 ≠ key) j = if j = key then unlisted j else Sparse.read unlisted m j := by
  induction m with
  | nil => simp [Sparse.read]
  | cons e rest ih =>
    obtain ⟨k, u⟩ := e
    by_cases hk : k = key
    · subst hk
      by_cases hj : j = k
      · simp_all
      · simp_all [Sparse.read, Ne.symm hj]
    · by_cases hj : k = j
      · subst hj; simp_all [Sparse.read]
      · simp_all [Sparse.read]

theorem Sparse.read_insert_of_ne (m : List (Nat × α)) {key j : Nat} (v : α) (h : j ≠ key) :
    Sparse.read unlisted (Sparse.insert key v m) j = Sparse.read unlisted m j := by
  induction m with
  | nil => simp [Sparse.read, Sparse.insert, h.symm]
  | cons e rest ih =>
    obtain ⟨k, u⟩ := e
    by_cases hk : key < k
    · simp [Sparse.read, Sparse.insert, hk, h.symm]
    · simp [Sparse.read, Sparse.insert, hk, ih]

theorem Sparse.read_insert_same (m : List (Nat × α)) {key : Nat} (v : α) (h : ∀ e ∈ m, e.1 ≠ key) :
    Sparse.read unlisted (Sparse.insert key v m) key = v := by
  induction m with
  | nil => simp [Sparse.read, Sparse.insert]
  | cons e rest ih =>
    obtain ⟨k, u⟩ := e
    have hne : k ≠ key := h (k, u) (by simp)
    by_cases hk : key < k
    · simp [Sparse.read, Sparse.insert, hk]
    · simp [Sparse.read, Sparse.insert, hk, hne, ih fun e he => h e (List.mem_cons_of_mem _ he)]

/-- A read gives the value written last at its key, and what it gave before anywhere else. -/
theorem Sparse.read_write [DecidableEq α] (m : List (Nat × α)) (key j : Nat) (v : α) :
    Sparse.read unlisted (Sparse.write unlisted m key v) j = if j = key then v else Sparse.read unlisted m j := by
  unfold Sparse.write
  by_cases hv : v = unlisted key
  · simp only [hv, if_true, Sparse.read_filter_ne]
    by_cases hj : j = key
    · simp [hj]
    · simp [hj]
  · simp only [hv, if_false]
    by_cases hj : j = key
    · subst hj
      rw [if_pos rfl]
      exact Sparse.read_insert_same unlisted _ v (by simp)
    · rw [if_neg hj, Sparse.read_insert_of_ne unlisted _ v hj, Sparse.read_filter_ne, if_neg hj]

theorem Sparse.mem_insert (m : List (Nat × α)) (key : Nat) (v : α) (e : Nat × α) :
    e ∈ Sparse.insert key v m ↔ e = (key, v) ∨ e ∈ m := by
  induction m with
  | nil => simp [Sparse.insert]
  | cons x rest ih =>
    by_cases hk : key < x.1
    · simp [Sparse.insert, hk]
    · simp only [Sparse.insert, hk, if_false, List.mem_cons, ih]; tauto

theorem Sparse.insert_rising (m : List (Nat × α)) (key : Nat) (v : α) (hm : (m.map Prod.fst).Pairwise (· < ·))
    (h : ∀ e ∈ m, e.1 ≠ key) : ((Sparse.insert key v m).map Prod.fst).Pairwise (· < ·) := by
  induction m with
  | nil => simp [Sparse.insert]
  | cons x rest ih =>
    simp only [List.map_cons, List.pairwise_cons] at hm
    by_cases hk : key < x.1
    · simp only [Sparse.insert, hk, if_true, List.map_cons, List.pairwise_cons]
      refine ⟨fun j hj => ?_, hm⟩
      rcases List.mem_cons.mp hj with rfl | hj
      · exact hk
      · exact lt_trans hk (hm.1 j hj)
    · have hx : x.1 < key := lt_of_le_of_ne (not_lt.mp hk) (h x (by simp))
      simp only [Sparse.insert, hk, if_false, List.map_cons, List.pairwise_cons]
      refine ⟨fun j hj => ?_, ih hm.2 fun e he => h e (List.mem_cons_of_mem _ he)⟩
      obtain ⟨e, he, rfl⟩ := List.mem_map.mp hj
      rcases (Sparse.mem_insert rest key v e).mp he with rfl | he
      · exact hx
      · exact hm.1 _ (List.mem_map_of_mem he)

/-- An entry of a written table is the new one or an old one at another key. -/
theorem Sparse.mem_write [DecidableEq α] (m : List (Nat × α)) (key : Nat) (v : α) (e : Nat × α) (h : e ∈ Sparse.write unlisted m key v) :
    (e = (key, v) ∧ v ≠ unlisted key) ∨ e ∈ m := by
  unfold Sparse.write at h
  by_cases hv : v = unlisted key
  · simp only [hv, if_true, List.mem_filter] at h; exact .inr h.1
  · simp only [hv, if_false, Sparse.mem_insert, List.mem_filter] at h
    rcases h with rfl | h
    · exact .inl ⟨rfl, hv⟩
    · exact .inr h.1

/-- A write at a key below the bound keeps the canonical form. -/
theorem Sparse.write_wf [DecidableEq α] {bound : Nat} (m : List (Nat × α)) {key : Nat} (v : α) (hm : Sparse.wf unlisted bound m)
    (hk : key < bound) : Sparse.wf unlisted bound (Sparse.write unlisted m key v) := by
  refine ⟨?_, fun e he => ?_⟩
  · have hsub : ((m.filter fun e => e.1 ≠ key).map Prod.fst).Pairwise (· < ·) :=
      hm.1.sublist (List.filter_sublist.map _)
    unfold Sparse.write
    by_cases hv : v = unlisted key
    · simpa only [hv, if_true] using hsub
    · simp only [hv, if_false]
      exact Sparse.insert_rising _ key v hsub (by simp)
  · rcases Sparse.mem_write unlisted m key v e he with ⟨rfl, hv⟩ | he
    · exact ⟨hk, hv⟩
    · exact hm.2 e he

theorem Memory.read_write (boot : Byte) (m : Memory) (k j : Nat) (v : Byte) :
    (m.write boot k v).read boot j = if j = k then v else m.read boot j := Sparse.read_write _ m k j v

theorem Memory.write_wf (boot : Byte) (m : Memory) {k : Nat} (v : Byte) (hm : m.wf boot) (hk : k < 65536) :
    (m.write boot k v).wf boot := Sparse.write_wf _ m v hm hk

theorem Memory.zeroed_wf (boot : Byte) : (Memory.zeroed boot).wf boot :=
  Memory.write_wf boot [] 0 ⟨.nil, nofun⟩ (by decide)

/-- Cleared memory reads 0x00 everywhere, the bootstrap address included. -/
theorem Memory.read_zeroed (boot : Byte) (k : Nat) : (Memory.zeroed boot).read boot k = 0 := by
  rw [Memory.zeroed, Memory.read_write]
  split
  · rfl
  · next h => simp [Memory.read, Sparse.read, Memory.unlisted, h]

theorem Memory.load_wf (boot : Byte) (bytes : List Byte) (m : Memory) (k : Nat) (hm : m.wf boot)
    (hk : k + bytes.length ≤ 65536) : (m.load boot k bytes).wf boot := by
  induction bytes generalizing m k with
  | nil => exact hm
  | cons v rest ih =>
    simp only [List.length_cons] at hk
    exact ih _ _ (Memory.write_wf boot m v hm (by omega)) (by omega)

theorem Ports.read_write (m : Ports) (p q : Byte) (v : Word) : (m.write p v).read q = if q = p then v else m.read q := by
  unfold Ports.read Ports.write
  rw [Sparse.read_write]
  simp only [BitVec.toNat_inj]

theorem Ports.write_wf (m : Ports) (p : Byte) (v : Word) (hm : m.wf) : (m.write p v).wf :=
  Sparse.write_wf _ m v hm p.isLt

/-- Writing a byte and reading it back, at the same address and at any other. -/
theorem State.readByte_writeByte (s : State) (k j : Word) (v : Byte) :
    (s.writeByte k v).readByte j = if j = k then v else s.readByte j := by
  simp only [State.readByte, State.writeByte, Memory.read_write, BitVec.toNat_inj]

@[simp] theorem State.readByte_writeByte_same (s : State) (k : Word) (v : Byte) : (s.writeByte k v).readByte k = v := by
  simp [State.readByte_writeByte]

@[simp] theorem State.readByte_writeByte_of_ne (s : State) {k j : Word} (v : Byte) (h : j ≠ k) :
    (s.writeByte k v).readByte j = s.readByte j := by
  simp [State.readByte_writeByte, h]

end Sys2Proof.Machine
end

