-- ==== Sys2Proof/Laws/State.lean ====
section
/-! SUPPORT. One lemma per field per update of the state, true by `rfl`, and the same for the register, pair and memory
views, so that no proof unfolds a record update. -/

namespace Sys2Proof.Machine

@[simp] theorem State.setPc_a (s : State) (v : Word) : (s.setPc v).a = s.a := rfl
@[simp] theorem State.setPc_b (s : State) (v : Word) : (s.setPc v).b = s.b := rfl
@[simp] theorem State.setPc_c (s : State) (v : Word) : (s.setPc v).c = s.c := rfl
@[simp] theorem State.setPc_d (s : State) (v : Word) : (s.setPc v).d = s.d := rfl
@[simp] theorem State.setPc_e (s : State) (v : Word) : (s.setPc v).e = s.e := rfl
@[simp] theorem State.setPc_h (s : State) (v : Word) : (s.setPc v).h = s.h := rfl
@[simp] theorem State.setPc_l (s : State) (v : Word) : (s.setPc v).l = s.l := rfl
@[simp] theorem State.setPc_sp (s : State) (v : Word) : (s.setPc v).sp = s.sp := rfl
@[simp] theorem State.setPc_pc (s : State) (v : Word) : (s.setPc v).pc = v := rfl
@[simp] theorem State.setPc_flags (s : State) (v : Word) : (s.setPc v).flags = s.flags := rfl
@[simp] theorem State.setPc_ie (s : State) (v : Word) : (s.setPc v).ie = s.ie := rfl
@[simp] theorem State.setPc_pend (s : State) (v : Word) : (s.setPc v).pend = s.pend := rfl
@[simp] theorem State.setPc_halt (s : State) (v : Word) : (s.setPc v).halt = s.halt := rfl
@[simp] theorem State.setPc_budget (s : State) (v : Word) : (s.setPc v).budget = s.budget := rfl
@[simp] theorem State.setPc_lastop (s : State) (v : Word) : (s.setPc v).lastop = s.lastop := rfl
@[simp] theorem State.setPc_mem (s : State) (v : Word) : (s.setPc v).mem = s.mem := rfl
@[simp] theorem State.setPc_ports (s : State) (v : Word) : (s.setPc v).ports = s.ports := rfl
@[simp] theorem State.setPc_inHandler (s : State) (v : Word) : (s.setPc v).inHandler = s.inHandler := rfl
@[simp] theorem State.setPc_outHandler (s : State) (v : Word) : (s.setPc v).outHandler = s.outHandler := rfl
@[simp] theorem State.setPc_inDraws (s : State) (v : Word) : (s.setPc v).inDraws = s.inDraws := rfl
@[simp] theorem State.setPc_events (s : State) (v : Word) : (s.setPc v).events = s.events := rfl
@[simp] theorem State.setPc_params (s : State) (v : Word) : (s.setPc v).params = s.params := rfl
@[simp] theorem State.setPc_faultRec (s : State) (v : Word) : (s.setPc v).faultRec = s.faultRec := rfl
@[simp] theorem State.reg_setPc (s : State) (v : Word) (r : Reg) : (s.setPc v).reg r = s.reg r := by cases r <;> rfl
@[simp] theorem State.readByte_setPc (s : State) (v : Word) (k : Word) : (s.setPc v).readByte k = s.readByte k := rfl
@[simp] theorem State.pair_setPc (s : State) (v : Word) (p : Pair) : (s.setPc v).pair p = s.pair p := by cases p <;> rfl
@[simp] theorem State.hl_setPc (s : State) (v : Word) : (s.setPc v).hl = s.hl := rfl

@[simp] theorem State.setSp_a (s : State) (v : Word) : (s.setSp v).a = s.a := rfl
@[simp] theorem State.setSp_b (s : State) (v : Word) : (s.setSp v).b = s.b := rfl
@[simp] theorem State.setSp_c (s : State) (v : Word) : (s.setSp v).c = s.c := rfl
@[simp] theorem State.setSp_d (s : State) (v : Word) : (s.setSp v).d = s.d := rfl
@[simp] theorem State.setSp_e (s : State) (v : Word) : (s.setSp v).e = s.e := rfl
@[simp] theorem State.setSp_h (s : State) (v : Word) : (s.setSp v).h = s.h := rfl
@[simp] theorem State.setSp_l (s : State) (v : Word) : (s.setSp v).l = s.l := rfl
@[simp] theorem State.setSp_sp (s : State) (v : Word) : (s.setSp v).sp = v := rfl
@[simp] theorem State.setSp_pc (s : State) (v : Word) : (s.setSp v).pc = s.pc := rfl
@[simp] theorem State.setSp_flags (s : State) (v : Word) : (s.setSp v).flags = s.flags := rfl
@[simp] theorem State.setSp_ie (s : State) (v : Word) : (s.setSp v).ie = s.ie := rfl
@[simp] theorem State.setSp_pend (s : State) (v : Word) : (s.setSp v).pend = s.pend := rfl
@[simp] theorem State.setSp_halt (s : State) (v : Word) : (s.setSp v).halt = s.halt := rfl
@[simp] theorem State.setSp_budget (s : State) (v : Word) : (s.setSp v).budget = s.budget := rfl
@[simp] theorem State.setSp_lastop (s : State) (v : Word) : (s.setSp v).lastop = s.lastop := rfl
@[simp] theorem State.setSp_mem (s : State) (v : Word) : (s.setSp v).mem = s.mem := rfl
@[simp] theorem State.setSp_ports (s : State) (v : Word) : (s.setSp v).ports = s.ports := rfl
@[simp] theorem State.setSp_inHandler (s : State) (v : Word) : (s.setSp v).inHandler = s.inHandler := rfl
@[simp] theorem State.setSp_outHandler (s : State) (v : Word) : (s.setSp v).outHandler = s.outHandler := rfl
@[simp] theorem State.setSp_inDraws (s : State) (v : Word) : (s.setSp v).inDraws = s.inDraws := rfl
@[simp] theorem State.setSp_events (s : State) (v : Word) : (s.setSp v).events = s.events := rfl
@[simp] theorem State.setSp_params (s : State) (v : Word) : (s.setSp v).params = s.params := rfl
@[simp] theorem State.setSp_faultRec (s : State) (v : Word) : (s.setSp v).faultRec = s.faultRec := rfl
@[simp] theorem State.reg_setSp (s : State) (v : Word) (r : Reg) : (s.setSp v).reg r = s.reg r := by cases r <;> rfl
@[simp] theorem State.readByte_setSp (s : State) (v : Word) (k : Word) : (s.setSp v).readByte k = s.readByte k := rfl
@[simp] theorem State.hl_setSp (s : State) (v : Word) : (s.setSp v).hl = s.hl := rfl

@[simp] theorem State.setFlags_a (s : State) (f : Flags) : (s.setFlags f).a = s.a := rfl
@[simp] theorem State.setFlags_b (s : State) (f : Flags) : (s.setFlags f).b = s.b := rfl
@[simp] theorem State.setFlags_c (s : State) (f : Flags) : (s.setFlags f).c = s.c := rfl
@[simp] theorem State.setFlags_d (s : State) (f : Flags) : (s.setFlags f).d = s.d := rfl
@[simp] theorem State.setFlags_e (s : State) (f : Flags) : (s.setFlags f).e = s.e := rfl
@[simp] theorem State.setFlags_h (s : State) (f : Flags) : (s.setFlags f).h = s.h := rfl
@[simp] theorem State.setFlags_l (s : State) (f : Flags) : (s.setFlags f).l = s.l := rfl
@[simp] theorem State.setFlags_sp (s : State) (f : Flags) : (s.setFlags f).sp = s.sp := rfl
@[simp] theorem State.setFlags_pc (s : State) (f : Flags) : (s.setFlags f).pc = s.pc := rfl
@[simp] theorem State.setFlags_flags (s : State) (f : Flags) : (s.setFlags f).flags = f := rfl
@[simp] theorem State.setFlags_ie (s : State) (f : Flags) : (s.setFlags f).ie = s.ie := rfl
@[simp] theorem State.setFlags_pend (s : State) (f : Flags) : (s.setFlags f).pend = s.pend := rfl
@[simp] theorem State.setFlags_halt (s : State) (f : Flags) : (s.setFlags f).halt = s.halt := rfl
@[simp] theorem State.setFlags_budget (s : State) (f : Flags) : (s.setFlags f).budget = s.budget := rfl
@[simp] theorem State.setFlags_lastop (s : State) (f : Flags) : (s.setFlags f).lastop = s.lastop := rfl
@[simp] theorem State.setFlags_mem (s : State) (f : Flags) : (s.setFlags f).mem = s.mem := rfl
@[simp] theorem State.setFlags_ports (s : State) (f : Flags) : (s.setFlags f).ports = s.ports := rfl
@[simp] theorem State.setFlags_inHandler (s : State) (f : Flags) : (s.setFlags f).inHandler = s.inHandler := rfl
@[simp] theorem State.setFlags_outHandler (s : State) (f : Flags) : (s.setFlags f).outHandler = s.outHandler := rfl
@[simp] theorem State.setFlags_inDraws (s : State) (f : Flags) : (s.setFlags f).inDraws = s.inDraws := rfl
@[simp] theorem State.setFlags_events (s : State) (f : Flags) : (s.setFlags f).events = s.events := rfl
@[simp] theorem State.setFlags_params (s : State) (f : Flags) : (s.setFlags f).params = s.params := rfl
@[simp] theorem State.setFlags_faultRec (s : State) (f : Flags) : (s.setFlags f).faultRec = s.faultRec := rfl
@[simp] theorem State.reg_setFlags (s : State) (f : Flags) (r : Reg) : (s.setFlags f).reg r = s.reg r := by cases r <;> rfl
@[simp] theorem State.readByte_setFlags (s : State) (f : Flags) (k : Word) : (s.setFlags f).readByte k = s.readByte k := rfl
@[simp] theorem State.pair_setFlags (s : State) (f : Flags) (p : Pair) : (s.setFlags f).pair p = s.pair p := by cases p <;> rfl
@[simp] theorem State.hl_setFlags (s : State) (f : Flags) : (s.setFlags f).hl = s.hl := rfl

@[simp] theorem State.setCy_a (s : State) (v : Bool) : (s.setCy v).a = s.a := rfl
@[simp] theorem State.setCy_b (s : State) (v : Bool) : (s.setCy v).b = s.b := rfl
@[simp] theorem State.setCy_c (s : State) (v : Bool) : (s.setCy v).c = s.c := rfl
@[simp] theorem State.setCy_d (s : State) (v : Bool) : (s.setCy v).d = s.d := rfl
@[simp] theorem State.setCy_e (s : State) (v : Bool) : (s.setCy v).e = s.e := rfl
@[simp] theorem State.setCy_h (s : State) (v : Bool) : (s.setCy v).h = s.h := rfl
@[simp] theorem State.setCy_l (s : State) (v : Bool) : (s.setCy v).l = s.l := rfl
@[simp] theorem State.setCy_sp (s : State) (v : Bool) : (s.setCy v).sp = s.sp := rfl
@[simp] theorem State.setCy_pc (s : State) (v : Bool) : (s.setCy v).pc = s.pc := rfl
@[simp] theorem State.setCy_flags (s : State) (v : Bool) : (s.setCy v).flags = { s.flags with cy := v } := rfl
@[simp] theorem State.setCy_ie (s : State) (v : Bool) : (s.setCy v).ie = s.ie := rfl
@[simp] theorem State.setCy_pend (s : State) (v : Bool) : (s.setCy v).pend = s.pend := rfl
@[simp] theorem State.setCy_halt (s : State) (v : Bool) : (s.setCy v).halt = s.halt := rfl
@[simp] theorem State.setCy_budget (s : State) (v : Bool) : (s.setCy v).budget = s.budget := rfl
@[simp] theorem State.setCy_lastop (s : State) (v : Bool) : (s.setCy v).lastop = s.lastop := rfl
@[simp] theorem State.setCy_mem (s : State) (v : Bool) : (s.setCy v).mem = s.mem := rfl
@[simp] theorem State.setCy_ports (s : State) (v : Bool) : (s.setCy v).ports = s.ports := rfl
@[simp] theorem State.setCy_inHandler (s : State) (v : Bool) : (s.setCy v).inHandler = s.inHandler := rfl
@[simp] theorem State.setCy_outHandler (s : State) (v : Bool) : (s.setCy v).outHandler = s.outHandler := rfl
@[simp] theorem State.setCy_inDraws (s : State) (v : Bool) : (s.setCy v).inDraws = s.inDraws := rfl
@[simp] theorem State.setCy_events (s : State) (v : Bool) : (s.setCy v).events = s.events := rfl
@[simp] theorem State.setCy_params (s : State) (v : Bool) : (s.setCy v).params = s.params := rfl
@[simp] theorem State.setCy_faultRec (s : State) (v : Bool) : (s.setCy v).faultRec = s.faultRec := rfl
@[simp] theorem State.reg_setCy (s : State) (v : Bool) (r : Reg) : (s.setCy v).reg r = s.reg r := by cases r <;> rfl
@[simp] theorem State.readByte_setCy (s : State) (v : Bool) (k : Word) : (s.setCy v).readByte k = s.readByte k := rfl
@[simp] theorem State.pair_setCy (s : State) (v : Bool) (p : Pair) : (s.setCy v).pair p = s.pair p := by cases p <;> rfl
@[simp] theorem State.hl_setCy (s : State) (v : Bool) : (s.setCy v).hl = s.hl := rfl

@[simp] theorem State.emit_a (s : State) (ev : Event) : (s.emit ev).a = s.a := rfl
@[simp] theorem State.emit_b (s : State) (ev : Event) : (s.emit ev).b = s.b := rfl
@[simp] theorem State.emit_c (s : State) (ev : Event) : (s.emit ev).c = s.c := rfl
@[simp] theorem State.emit_d (s : State) (ev : Event) : (s.emit ev).d = s.d := rfl
@[simp] theorem State.emit_e (s : State) (ev : Event) : (s.emit ev).e = s.e := rfl
@[simp] theorem State.emit_h (s : State) (ev : Event) : (s.emit ev).h = s.h := rfl
@[simp] theorem State.emit_l (s : State) (ev : Event) : (s.emit ev).l = s.l := rfl
@[simp] theorem State.emit_sp (s : State) (ev : Event) : (s.emit ev).sp = s.sp := rfl
@[simp] theorem State.emit_pc (s : State) (ev : Event) : (s.emit ev).pc = s.pc := rfl
@[simp] theorem State.emit_flags (s : State) (ev : Event) : (s.emit ev).flags = s.flags := rfl
@[simp] theorem State.emit_ie (s : State) (ev : Event) : (s.emit ev).ie = s.ie := rfl
@[simp] theorem State.emit_pend (s : State) (ev : Event) : (s.emit ev).pend = s.pend := rfl
@[simp] theorem State.emit_halt (s : State) (ev : Event) : (s.emit ev).halt = s.halt := rfl
@[simp] theorem State.emit_budget (s : State) (ev : Event) : (s.emit ev).budget = s.budget := rfl
@[simp] theorem State.emit_lastop (s : State) (ev : Event) : (s.emit ev).lastop = s.lastop := rfl
@[simp] theorem State.emit_mem (s : State) (ev : Event) : (s.emit ev).mem = s.mem := rfl
@[simp] theorem State.emit_ports (s : State) (ev : Event) : (s.emit ev).ports = s.ports := rfl
@[simp] theorem State.emit_inHandler (s : State) (ev : Event) : (s.emit ev).inHandler = s.inHandler := rfl
@[simp] theorem State.emit_outHandler (s : State) (ev : Event) : (s.emit ev).outHandler = s.outHandler := rfl
@[simp] theorem State.emit_inDraws (s : State) (ev : Event) : (s.emit ev).inDraws = s.inDraws := rfl
@[simp] theorem State.emit_events (s : State) (ev : Event) : (s.emit ev).events = s.events ++ [ev] := rfl
@[simp] theorem State.emit_params (s : State) (ev : Event) : (s.emit ev).params = s.params := rfl
@[simp] theorem State.emit_faultRec (s : State) (ev : Event) : (s.emit ev).faultRec = s.faultRec := rfl
@[simp] theorem State.reg_emit (s : State) (ev : Event) (r : Reg) : (s.emit ev).reg r = s.reg r := by cases r <;> rfl
@[simp] theorem State.readByte_emit (s : State) (ev : Event) (k : Word) : (s.emit ev).readByte k = s.readByte k := rfl
@[simp] theorem State.pair_emit (s : State) (ev : Event) (p : Pair) : (s.emit ev).pair p = s.pair p := by cases p <;> rfl
@[simp] theorem State.hl_emit (s : State) (ev : Event) : (s.emit ev).hl = s.hl := rfl

@[simp] theorem State.charge_a (s : State) (n : Nat) : (s.charge n).a = s.a := rfl
@[simp] theorem State.charge_b (s : State) (n : Nat) : (s.charge n).b = s.b := rfl
@[simp] theorem State.charge_c (s : State) (n : Nat) : (s.charge n).c = s.c := rfl
@[simp] theorem State.charge_d (s : State) (n : Nat) : (s.charge n).d = s.d := rfl
@[simp] theorem State.charge_e (s : State) (n : Nat) : (s.charge n).e = s.e := rfl
@[simp] theorem State.charge_h (s : State) (n : Nat) : (s.charge n).h = s.h := rfl
@[simp] theorem State.charge_l (s : State) (n : Nat) : (s.charge n).l = s.l := rfl
@[simp] theorem State.charge_sp (s : State) (n : Nat) : (s.charge n).sp = s.sp := rfl
@[simp] theorem State.charge_pc (s : State) (n : Nat) : (s.charge n).pc = s.pc := rfl
@[simp] theorem State.charge_flags (s : State) (n : Nat) : (s.charge n).flags = s.flags := rfl
@[simp] theorem State.charge_ie (s : State) (n : Nat) : (s.charge n).ie = s.ie := rfl
@[simp] theorem State.charge_pend (s : State) (n : Nat) : (s.charge n).pend = s.pend := rfl
@[simp] theorem State.charge_halt (s : State) (n : Nat) : (s.charge n).halt = s.halt := rfl
@[simp] theorem State.charge_budget (s : State) (n : Nat) : (s.charge n).budget = s.budget - n := rfl
@[simp] theorem State.charge_lastop (s : State) (n : Nat) : (s.charge n).lastop = s.lastop := rfl
@[simp] theorem State.charge_mem (s : State) (n : Nat) : (s.charge n).mem = s.mem := rfl
@[simp] theorem State.charge_ports (s : State) (n : Nat) : (s.charge n).ports = s.ports := rfl
@[simp] theorem State.charge_inHandler (s : State) (n : Nat) : (s.charge n).inHandler = s.inHandler := rfl
@[simp] theorem State.charge_outHandler (s : State) (n : Nat) : (s.charge n).outHandler = s.outHandler := rfl
@[simp] theorem State.charge_inDraws (s : State) (n : Nat) : (s.charge n).inDraws = s.inDraws := rfl
@[simp] theorem State.charge_events (s : State) (n : Nat) : (s.charge n).events = s.events := rfl
@[simp] theorem State.charge_params (s : State) (n : Nat) : (s.charge n).params = s.params := rfl
@[simp] theorem State.charge_faultRec (s : State) (n : Nat) : (s.charge n).faultRec = s.faultRec := rfl
@[simp] theorem State.reg_charge (s : State) (n : Nat) (r : Reg) : (s.charge n).reg r = s.reg r := by cases r <;> rfl
@[simp] theorem State.readByte_charge (s : State) (n : Nat) (k : Word) : (s.charge n).readByte k = s.readByte k := rfl
@[simp] theorem State.pair_charge (s : State) (n : Nat) (p : Pair) : (s.charge n).pair p = s.pair p := by cases p <;> rfl
@[simp] theorem State.hl_charge (s : State) (n : Nat) : (s.charge n).hl = s.hl := rfl

@[simp] theorem State.writeByte_a (s : State) (k : Word) (v : Byte) : (s.writeByte k v).a = s.a := rfl
@[simp] theorem State.writeByte_b (s : State) (k : Word) (v : Byte) : (s.writeByte k v).b = s.b := rfl
@[simp] theorem State.writeByte_c (s : State) (k : Word) (v : Byte) : (s.writeByte k v).c = s.c := rfl
@[simp] theorem State.writeByte_d (s : State) (k : Word) (v : Byte) : (s.writeByte k v).d = s.d := rfl
@[simp] theorem State.writeByte_e (s : State) (k : Word) (v : Byte) : (s.writeByte k v).e = s.e := rfl
@[simp] theorem State.writeByte_h (s : State) (k : Word) (v : Byte) : (s.writeByte k v).h = s.h := rfl
@[simp] theorem State.writeByte_l (s : State) (k : Word) (v : Byte) : (s.writeByte k v).l = s.l := rfl
@[simp] theorem State.writeByte_sp (s : State) (k : Word) (v : Byte) : (s.writeByte k v).sp = s.sp := rfl
@[simp] theorem State.writeByte_pc (s : State) (k : Word) (v : Byte) : (s.writeByte k v).pc = s.pc := rfl
@[simp] theorem State.writeByte_flags (s : State) (k : Word) (v : Byte) : (s.writeByte k v).flags = s.flags := rfl
@[simp] theorem State.writeByte_ie (s : State) (k : Word) (v : Byte) : (s.writeByte k v).ie = s.ie := rfl
@[simp] theorem State.writeByte_pend (s : State) (k : Word) (v : Byte) : (s.writeByte k v).pend = s.pend := rfl
@[simp] theorem State.writeByte_halt (s : State) (k : Word) (v : Byte) : (s.writeByte k v).halt = s.halt := rfl
@[simp] theorem State.writeByte_budget (s : State) (k : Word) (v : Byte) : (s.writeByte k v).budget = s.budget := rfl
@[simp] theorem State.writeByte_lastop (s : State) (k : Word) (v : Byte) : (s.writeByte k v).lastop = s.lastop := rfl
@[simp] theorem State.writeByte_mem (s : State) (k : Word) (v : Byte) : (s.writeByte k v).mem =
    s.mem.write s.params.bootOpcode k.toNat v := rfl
@[simp] theorem State.writeByte_ports (s : State) (k : Word) (v : Byte) : (s.writeByte k v).ports = s.ports := rfl
@[simp] theorem State.writeByte_inHandler (s : State) (k : Word) (v : Byte) : (s.writeByte k v).inHandler = s.inHandler := rfl
@[simp] theorem State.writeByte_outHandler (s : State) (k : Word) (v : Byte) : (s.writeByte k v).outHandler = s.outHandler := rfl
@[simp] theorem State.writeByte_inDraws (s : State) (k : Word) (v : Byte) : (s.writeByte k v).inDraws = s.inDraws := rfl
@[simp] theorem State.writeByte_events (s : State) (k : Word) (v : Byte) : (s.writeByte k v).events = s.events := rfl
@[simp] theorem State.writeByte_params (s : State) (k : Word) (v : Byte) : (s.writeByte k v).params = s.params := rfl
@[simp] theorem State.writeByte_faultRec (s : State) (k : Word) (v : Byte) : (s.writeByte k v).faultRec = s.faultRec := rfl
@[simp] theorem State.reg_writeByte (s : State) (k : Word) (v : Byte) (r : Reg) : (s.writeByte k v).reg r = s.reg r := by cases r <;> rfl
@[simp] theorem State.pair_writeByte (s : State) (k : Word) (v : Byte) (p : Pair) : (s.writeByte k v).pair p = s.pair p := by cases p <;> rfl
@[simp] theorem State.hl_writeByte (s : State) (k : Word) (v : Byte) : (s.writeByte k v).hl = s.hl := rfl

@[simp] theorem State.setReg_sp (s : State) (r : Reg) (v : Byte) : (s.setReg r v).sp = s.sp := by cases r <;> rfl
@[simp] theorem State.setReg_pc (s : State) (r : Reg) (v : Byte) : (s.setReg r v).pc = s.pc := by cases r <;> rfl
@[simp] theorem State.setReg_flags (s : State) (r : Reg) (v : Byte) : (s.setReg r v).flags = s.flags := by cases r <;> rfl
@[simp] theorem State.setReg_ie (s : State) (r : Reg) (v : Byte) : (s.setReg r v).ie = s.ie := by cases r <;> rfl
@[simp] theorem State.setReg_pend (s : State) (r : Reg) (v : Byte) : (s.setReg r v).pend = s.pend := by cases r <;> rfl
@[simp] theorem State.setReg_halt (s : State) (r : Reg) (v : Byte) : (s.setReg r v).halt = s.halt := by cases r <;> rfl
@[simp] theorem State.setReg_budget (s : State) (r : Reg) (v : Byte) : (s.setReg r v).budget = s.budget := by cases r <;> rfl
@[simp] theorem State.setReg_lastop (s : State) (r : Reg) (v : Byte) : (s.setReg r v).lastop = s.lastop := by cases r <;> rfl
@[simp] theorem State.setReg_mem (s : State) (r : Reg) (v : Byte) : (s.setReg r v).mem = s.mem := by cases r <;> rfl
@[simp] theorem State.setReg_ports (s : State) (r : Reg) (v : Byte) : (s.setReg r v).ports = s.ports := by cases r <;> rfl
@[simp] theorem State.setReg_inHandler (s : State) (r : Reg) (v : Byte) : (s.setReg r v).inHandler = s.inHandler := by cases r <;> rfl
@[simp] theorem State.setReg_outHandler (s : State) (r : Reg) (v : Byte) : (s.setReg r v).outHandler = s.outHandler := by cases r <;> rfl
@[simp] theorem State.setReg_inDraws (s : State) (r : Reg) (v : Byte) : (s.setReg r v).inDraws = s.inDraws := by cases r <;> rfl
@[simp] theorem State.setReg_events (s : State) (r : Reg) (v : Byte) : (s.setReg r v).events = s.events := by cases r <;> rfl
@[simp] theorem State.setReg_params (s : State) (r : Reg) (v : Byte) : (s.setReg r v).params = s.params := by cases r <;> rfl
@[simp] theorem State.setReg_faultRec (s : State) (r : Reg) (v : Byte) : (s.setReg r v).faultRec = s.faultRec := by cases r <;> rfl
@[simp] theorem State.readByte_setReg (s : State) (r : Reg) (v : Byte) (k : Word) :
    (s.setReg r v).readByte k = s.readByte k := by cases r <;> rfl
@[simp] theorem State.reg_setReg_same (s : State) (r : Reg) (v : Byte) : (s.setReg r v).reg r = v := by cases r <;> rfl
theorem State.reg_setReg (s : State) (r q : Reg) (v : Byte) : (s.setReg r v).reg q = if q = r then v else s.reg q := by
  cases r <;> cases q <;> rfl
@[simp] theorem State.reg_setReg_of_ne (s : State) {r q : Reg} (v : Byte) (h : q ≠ r) : (s.setReg r v).reg q = s.reg q := by
  rw [State.reg_setReg, if_neg h]

@[simp] theorem State.setPair_pc (s : State) (p : Pair) (v : Word) : (s.setPair p v).pc = s.pc := by cases p <;> rfl
@[simp] theorem State.setPair_flags (s : State) (p : Pair) (v : Word) : (s.setPair p v).flags = s.flags := by cases p <;> rfl
@[simp] theorem State.setPair_ie (s : State) (p : Pair) (v : Word) : (s.setPair p v).ie = s.ie := by cases p <;> rfl
@[simp] theorem State.setPair_pend (s : State) (p : Pair) (v : Word) : (s.setPair p v).pend = s.pend := by cases p <;> rfl
@[simp] theorem State.setPair_halt (s : State) (p : Pair) (v : Word) : (s.setPair p v).halt = s.halt := by cases p <;> rfl
@[simp] theorem State.setPair_budget (s : State) (p : Pair) (v : Word) : (s.setPair p v).budget = s.budget := by cases p <;> rfl
@[simp] theorem State.setPair_lastop (s : State) (p : Pair) (v : Word) : (s.setPair p v).lastop = s.lastop := by cases p <;> rfl
@[simp] theorem State.setPair_mem (s : State) (p : Pair) (v : Word) : (s.setPair p v).mem = s.mem := by cases p <;> rfl
@[simp] theorem State.setPair_ports (s : State) (p : Pair) (v : Word) : (s.setPair p v).ports = s.ports := by cases p <;> rfl
@[simp] theorem State.setPair_inHandler (s : State) (p : Pair) (v : Word) : (s.setPair p v).inHandler = s.inHandler := by cases p <;> rfl
@[simp] theorem State.setPair_outHandler (s : State) (p : Pair) (v : Word) : (s.setPair p v).outHandler = s.outHandler := by cases p <;> rfl
@[simp] theorem State.setPair_inDraws (s : State) (p : Pair) (v : Word) : (s.setPair p v).inDraws = s.inDraws := by cases p <;> rfl
@[simp] theorem State.setPair_events (s : State) (p : Pair) (v : Word) : (s.setPair p v).events = s.events := by cases p <;> rfl
@[simp] theorem State.setPair_params (s : State) (p : Pair) (v : Word) : (s.setPair p v).params = s.params := by cases p <;> rfl
@[simp] theorem State.setPair_faultRec (s : State) (p : Pair) (v : Word) : (s.setPair p v).faultRec = s.faultRec := by cases p <;> rfl
@[simp] theorem State.readByte_setPair (s : State) (p : Pair) (v : Word) (k : Word) :
    (s.setPair p v).readByte k = s.readByte k := by cases p <;> rfl

theorem State.reg_a (s : State) : s.reg .a = s.a := rfl
theorem State.reg_b (s : State) : s.reg .b = s.b := rfl
theorem State.reg_c (s : State) : s.reg .c = s.c := rfl
theorem State.reg_d (s : State) : s.reg .d = s.d := rfl
theorem State.reg_e (s : State) : s.reg .e = s.e := rfl
theorem State.reg_h (s : State) : s.reg .h = s.h := rfl
theorem State.reg_l (s : State) : s.reg .l = s.l := rfl

end Sys2Proof.Machine
end

