-- ==== Sys2Proof/Laws/Ops.lean ====
section
/-! SUPPORT. What each shared operation can do, said once: it succeeds exactly where its addresses can be formed, with the
value or state named, and otherwise faults with the address named. -/

namespace Sys2Proof.Machine

open Sys2Proof.Safety

@[simp] theorem outcome_ok (t : State) : outcome (.ok t) = .next t := rfl
@[simp] theorem outcome_error (f : Fault) : outcome (.error f) = .fault f := rfl
@[simp] theorem except_pure {α : Type} (x : α) : (pure x : Except Fault α) = .ok x := rfl
@[simp] theorem except_ok_bind {α β : Type} (x : α) (k : α → Except Fault β) : (Except.ok x >>= k) = k x := rfl
@[simp] theorem except_error_bind {α β : Type} (f : Fault) (k : α → Except Fault β) :
    (Except.error f >>= k) = .error f := rfl

theorem outcome_eq_next {r : Except Fault State} {t : State} : outcome r = .next t ↔ r = .ok t := by
  cases r <;> simp [outcome]

theorem except_bind_eq_ok {α β : Type} {r : Except Fault α} {k : α → Except Fault β} {y : β} :
    (r >>= k) = .ok y ↔ ∃ x, r = .ok x ∧ k x = .ok y := by
  cases r <;> simp

theorem formAddr_of_addressable {pc0 : Word} {s : State} {z : Int} (h : Addressable s.params.wrapPolicy z) :
    formAddr pc0 s z = .ok (BitVec.ofInt 16 z) := if_pos h.symm

theorem formAddr_of_not {pc0 : Word} {s : State} {z : Int} (h : ¬ Addressable s.params.wrapPolicy z) :
    formAddr pc0 s z = .error (.addressWrap pc0 z) := if_neg fun hz => h hz.symm

theorem formAddr_eq_ok {pc0 : Word} {s : State} {z : Int} {a : Word} :
    formAddr pc0 s z = .ok a ↔ Addressable s.params.wrapPolicy z ∧ a = BitVec.ofInt 16 z := by
  by_cases h : Addressable s.params.wrapPolicy z
  · rw [formAddr_of_addressable h]; simp [h, eq_comm]
  · rw [formAddr_of_not h]; simp [h]

theorem ofInt_add (a : Word) (n : Nat) : BitVec.ofInt 16 ((a.toNat : Int) + n) = a + BitVec.ofNat 16 n := by
  rw [BitVec.ofInt_add, BitVec.ofInt_natCast, BitVec.ofInt_natCast, BitVec.ofNat_toNat, BitVec.setWidth_eq]

theorem ofInt_sub_two (a : Word) : BitVec.ofInt 16 ((a.toNat : Int) - 2) = a - 2 := by
  rw [Int.sub_eq_add_neg, BitVec.ofInt_add, BitVec.ofInt_natCast, BitVec.ofNat_toNat, BitVec.setWidth_eq,
    BitVec.sub_eq_add_neg]
  congr 1

theorem nextPc_of_fits {s : State} {len : Nat} (h : Fits s len) : nextPc len s = .ok (s.pc + BitVec.ofNat 16 len) := by
  rw [nextPc, formAddr_of_addressable h, ofInt_add]

theorem nextPc_of_not_fits {s : State} {len : Nat} (h : ¬ Fits s len) :
    nextPc len s = .error (.addressWrap s.pc ((s.pc.toNat : Int) + len)) := formAddr_of_not h

theorem nextPc_eq_ok {s : State} {len : Nat} {n : Word} :
    nextPc len s = .ok n ↔ Fits s len ∧ n = s.pc + BitVec.ofNat 16 len := by
  rw [nextPc, formAddr_eq_ok, ofInt_add]

theorem complete_of_fits {s t : State} {len : Nat} (h : Fits s len) :
    complete len s t = .next (t.setPc (s.pc + BitVec.ofNat 16 len)) := by
  simp [complete, nextPc_of_fits h]

theorem complete_of_not_fits {s t : State} {len : Nat} (h : ¬ Fits s len) :
    complete len s t = .fault (.addressWrap s.pc ((s.pc.toNat : Int) + len)) := by
  simp [complete, nextPc_of_not_fits h]

theorem complete_eq_next {s t u : State} {len : Nat} :
    complete len s t = .next u ↔ Fits s len ∧ u = t.setPc (s.pc + BitVec.ofNat 16 len) := by
  by_cases h : Fits s len
  · rw [complete_of_fits h]; simp [h, eq_comm]
  · rw [complete_of_not_fits h]; simp [h]

theorem readWord_of_fits {pc0 : Word} {s : State} {a : Word} (h : WordFits s a) :
    readWord pc0 s a = .ok (wordOf (s.readByte (a + 1)) (s.readByte a)) := by
  have := ofInt_add a 1
  rw [readWord, formAddr_of_addressable h]
  simp at this
  simp [this]

theorem readWord_of_not_fits {pc0 : Word} {s : State} {a : Word} (h : ¬ WordFits s a) :
    readWord pc0 s a = .error (.addressWrap pc0 ((a.toNat : Int) + 1)) := by
  rw [readWord, formAddr_of_not h]; rfl

theorem readWord_eq_ok {pc0 : Word} {s : State} {a v : Word} :
    readWord pc0 s a = .ok v ↔ WordFits s a ∧ v = wordOf (s.readByte (a + 1)) (s.readByte a) := by
  by_cases h : WordFits s a
  · rw [readWord_of_fits h]; simp [h, eq_comm]
  · rw [readWord_of_not_fits h]; simp [h]

/-- The state after a word is stored. -/
def State.writeBoth (s : State) (a v : Word) : State := (s.writeByte a (loByte v)).writeByte (a + 1) (hiByte v)

theorem writeWord_of_fits {pc0 : Word} {s : State} {a v : Word} (h : WordFits s a) :
    writeWord pc0 s a v = .ok (s.writeBoth a v) := by
  have := ofInt_add a 1
  rw [writeWord, formAddr_of_addressable h]
  simp at this
  simp [this, State.writeBoth]

theorem writeWord_of_not_fits {pc0 : Word} {s : State} {a v : Word} (h : ¬ WordFits s a) :
    writeWord pc0 s a v = .error (.addressWrap pc0 ((a.toNat : Int) + 1)) := by
  rw [writeWord, formAddr_of_not h]; rfl

theorem writeWord_eq_ok {pc0 : Word} {s t : State} {a v : Word} :
    writeWord pc0 s a v = .ok t ↔ WordFits s a ∧ t = s.writeBoth a v := by
  by_cases h : WordFits s a
  · rw [writeWord_of_fits h]; simp [h, eq_comm]
  · rw [writeWord_of_not_fits h]; simp [h]

theorem wordFits_below_sp {s : State} (h : PushFits s) : WordFits s (s.sp - 2) := by
  rcases h with h | h
  · exact .inl h
  · right
    have hlt := s.sp.isLt
    have : (s.sp - 2).toNat = s.sp.toNat - 2 := by
      rw [BitVec.toNat_sub_of_le (by rw [BitVec.le_def]; simp; omega)]; rfl
    rw [this]; omega

theorem push16_of_fits {pc0 : Word} {s : State} {v : Word} (h : PushFits s) :
    push16 pc0 s v = .ok ((s.writeBoth (s.sp - 2) v).setSp (s.sp - 2)) := by
  rw [push16, formAddr_of_addressable h, ofInt_sub_two, except_ok_bind, writeWord_of_fits (wordFits_below_sp h)]
  rfl

theorem push16_of_not_fits {pc0 : Word} {s : State} {v : Word} (h : ¬ PushFits s) :
    push16 pc0 s v = .error (.addressWrap pc0 ((s.sp.toNat : Int) - 2)) := by
  rw [push16, formAddr_of_not h]; rfl

theorem push16_eq_ok {pc0 : Word} {s t : State} {v : Word} :
    push16 pc0 s v = .ok t ↔ PushFits s ∧ t = (s.writeBoth (s.sp - 2) v).setSp (s.sp - 2) := by
  by_cases h : PushFits s
  · rw [push16_of_fits h]; simp [h, eq_comm]
  · rw [push16_of_not_fits h]; simp [h]

theorem wordFits_of_popFits {s : State} (h : PopFits s) : WordFits s s.sp := by
  rcases h with h | h
  · exact .inl h
  · exact .inr (by omega)

theorem pop16_of_fits {pc0 : Word} {s : State} (h : PopFits s) :
    pop16 pc0 s = .ok (wordOf (s.readByte (s.sp + 1)) (s.readByte s.sp), s.setSp (s.sp + 2)) := by
  have := ofInt_add s.sp 2
  simp at this
  rw [pop16, readWord_of_fits (wordFits_of_popFits h)]
  simp [formAddr_of_addressable h, this]

/-- A pop that cannot be made faults at 0x10000, the first address past the top. -/
theorem pop16_of_not_fits {pc0 : Word} {s : State} (h : ¬ PopFits s) : pop16 pc0 s = .error (.addressWrap pc0 0x10000) := by
  have hlt := s.sp.isLt
  by_cases hw : WordFits s s.sp
  · rw [pop16, readWord_of_fits hw]
    have : (s.sp.toNat : Int) + 2 = 0x10000 := by
      unfold PopFits Addressable at h; unfold WordFits Addressable at hw; push Not at h
      rcases hw with hw | hw
      · exact absurd hw h.1
      · have := h.2 (by omega); omega
    rw [except_ok_bind, formAddr_of_not h, this]; rfl
  · rw [pop16, readWord_of_not_fits hw]
    have : (s.sp.toNat : Int) + 1 = 0x10000 := by
      unfold WordFits Addressable at hw; push Not at hw; have := hw.2 (by omega); omega
    simp [this]

theorem pop16_eq_ok {pc0 : Word} {s : State} {r : Word × State} :
    pop16 pc0 s = .ok r ↔
      PopFits s ∧ r = (wordOf (s.readByte (s.sp + 1)) (s.readByte s.sp), s.setSp (s.sp + 2)) := by
  by_cases h : PopFits s
  · rw [pop16_of_fits h]; simp [h, eq_comm]
  · rw [pop16_of_not_fits h]; simp [h]

theorem returnTo_of_fits {s : State} (h : PopFits s) :
    returnTo s = .ok ((s.setSp (s.sp + 2)).setPc (wordOf (s.readByte (s.sp + 1)) (s.readByte s.sp))) := by
  simp [returnTo, pop16_of_fits h]

theorem returnTo_of_not_fits {s : State} (h : ¬ PopFits s) : returnTo s = .error (.addressWrap s.pc 0x10000) := by
  simp [returnTo, pop16_of_not_fits h]

/-- The state an interrupt entry leaves. -/
def State.entered (s : State) (id : Byte) : State :=
  { (s.writeBoth (s.sp - 2) s.pc).setSp (s.sp - 2) with
    ie := false, halt := false, pc := vectorAddr id, budget := s.budget - intCost }

theorem enterInterrupt_of_fits {pc0 : Word} {id : Byte} {s : State} (h : PushFits s) :
    enterInterrupt pc0 id s = .ok (s.entered id) := by
  simp [enterInterrupt, push16_of_fits h, State.entered, State.writeBoth]

theorem enterInterrupt_of_not_fits {pc0 : Word} {id : Byte} {s : State} (h : ¬ PushFits s) :
    enterInterrupt pc0 id s = .error (.addressWrap pc0 ((s.sp.toNat : Int) - 2)) := by
  simp [enterInterrupt, push16_of_not_fits h]

theorem enterInterrupt_eq_ok {pc0 : Word} {id : Byte} {s t : State} :
    enterInterrupt pc0 id s = .ok t ↔ PushFits s ∧ t = s.entered id := by
  by_cases h : PushFits s
  · rw [enterInterrupt_of_fits h]; simp [h, eq_comm]
  · rw [enterInterrupt_of_not_fits h]; simp [h]

end Sys2Proof.Machine
end

