-- ==== Sys2Proof/Laws/Frame.lean ====
section
/-! SUPPORT. How the statements' terms follow from the shape of a meaning: the encoding and cost of a form, the fault of
an instruction whose `next` cannot be formed, and the frame through each update of the state. -/

namespace Sys2Proof

@[simp] theorem hiByte_wordOf (hi lo : Byte) : hiByte (wordOf hi lo) = hi := by
  unfold hiByte wordOf; exact BitVec.extractLsb'_append_eq_left

@[simp] theorem loByte_wordOf (hi lo : Byte) : loByte (wordOf hi lo) = lo := by
  unfold loByte wordOf; exact BitVec.extractLsb'_append_eq_right

@[simp] theorem wordOf_hiByte_loByte (w : Word) : wordOf (hiByte w) (loByte w) = w := by
  unfold loByte hiByte wordOf
  exact (BitVec.extractLsb'_append_extractLsb'_eq_extractLsb' (w := 16) rfl).trans BitVec.extractLsb'_eq_self

namespace Safety

open Sys2Proof.Machine

/-- The encoding and cost of an instruction, from its bytes. -/
theorem coded_of_encode {i : Instr} {op : Byte} {rest bytes : List Byte} {cost : Nat} (h : encode i = op :: rest)
    (hb : op :: rest = bytes) (hc : defaultParams.cycleCost op = cost) : Coded i bytes cost :=
  ⟨h.trans hb, by rw [Instr.opcode, h]; exact hc⟩

/-- The length of an instruction, from its bytes. -/
theorem length_of_encode {i : Instr} {op : Byte} {rest : List Byte} {n : Nat} (h : encode i = op :: rest)
    (hn : lengthOf op = n) : i.length = n := by
  rw [Instr.length, Instr.opcode, h]; exact hn

/-- A meaning that ends by `complete` faults where `next` cannot be formed. -/
theorem wrapFaults_of_complete {i : Instr} {len : Nat} {s t : State} (hl : i.length = len)
    (he : exec i s = complete len s t) : WrapFaults i s := by
  intro h; rw [hl] at h ⊢; rw [he, complete_of_not_fits h]

/-- A meaning that first forms `next` faults where `next` cannot be formed. -/
theorem wrapFaults_of_nextPc {i : Instr} {len : Nat} {s : State} {k : Word → Except Fault State} (hl : i.length = len)
    (he : exec i s = outcome (nextPc len s >>= k)) : WrapFaults i s := by
  intro h; rw [hl] at h ⊢; rw [he, nextPc_of_not_fits h]; rfl

/-- A meaning that ends by `complete` answers its state with PC advanced. -/
theorem next_of_complete {i : Instr} {len : Nat} {s t : State} {P : State → Prop} (he : exec i s = complete len s t)
    (h : Fits s len) (hp : P (t.setPc (s.pc + BitVec.ofNat 16 len))) : ∃ u, exec i s = .next u ∧ P u :=
  ⟨_, by rw [he, complete_of_fits h], hp⟩

/-- An address whose successor cannot be formed is the last one. -/
theorem succ_of_not_wordFits {s : State} {a : Word} (h : ¬ WordFits s a) : (a.toNat : Int) + 1 = 0x10000 := by
  have hlt := a.isLt
  unfold WordFits Addressable at h; push Not at h; have := h.2 (by omega); omega

theorem keepsRegs_setReg {dst : Reg} {regs : List Reg} {s t : State} {v : Byte} (h : dst ∈ regs)
    (hk : KeepsRegs regs s t) : KeepsRegs regs s (t.setReg dst v) := fun r hr =>
  (State.reg_setReg_of_ne t v (by rintro rfl; exact hr h)).trans (hk r hr)

@[simp] theorem keepsRegs_self {regs : List Reg} {s : State} : KeepsRegs regs s s := fun _ _ => rfl
@[simp] theorem keepsRegs_setPc {regs : List Reg} {s t : State} {v : Word} :
    KeepsRegs regs s (t.setPc v) ↔ KeepsRegs regs s t := by simp [KeepsRegs]
@[simp] theorem keepsRegs_setSp {regs : List Reg} {s t : State} {v : Word} :
    KeepsRegs regs s (t.setSp v) ↔ KeepsRegs regs s t := by simp [KeepsRegs]
@[simp] theorem keepsRegs_setFlags {regs : List Reg} {s t : State} {f : Flags} :
    KeepsRegs regs s (t.setFlags f) ↔ KeepsRegs regs s t := by simp [KeepsRegs]
@[simp] theorem keepsRegs_setCy {regs : List Reg} {s t : State} {v : Bool} :
    KeepsRegs regs s (t.setCy v) ↔ KeepsRegs regs s t := by simp [KeepsRegs]
@[simp] theorem keepsRegs_writeByte {regs : List Reg} {s t : State} {k : Word} {v : Byte} :
    KeepsRegs regs s (t.writeByte k v) ↔ KeepsRegs regs s t := by simp [KeepsRegs]

@[simp] theorem keepsMemory_self {addrs : List Word} {s : State} : KeepsMemory addrs s s := fun _ _ => rfl
@[simp] theorem keepsMemory_setPc {addrs : List Word} {s t : State} {v : Word} :
    KeepsMemory addrs s (t.setPc v) ↔ KeepsMemory addrs s t := by simp [KeepsMemory]
@[simp] theorem keepsMemory_setSp {addrs : List Word} {s t : State} {v : Word} :
    KeepsMemory addrs s (t.setSp v) ↔ KeepsMemory addrs s t := by simp [KeepsMemory]
@[simp] theorem keepsMemory_setFlags {addrs : List Word} {s t : State} {f : Flags} :
    KeepsMemory addrs s (t.setFlags f) ↔ KeepsMemory addrs s t := by simp [KeepsMemory]
@[simp] theorem keepsMemory_setCy {addrs : List Word} {s t : State} {v : Bool} :
    KeepsMemory addrs s (t.setCy v) ↔ KeepsMemory addrs s t := by simp [KeepsMemory]
@[simp] theorem keepsMemory_setReg {addrs : List Word} {s t : State} {r : Reg} {v : Byte} :
    KeepsMemory addrs s (t.setReg r v) ↔ KeepsMemory addrs s t := by simp [KeepsMemory]
@[simp] theorem keepsMemory_setPair {addrs : List Word} {s t : State} {p : Pair} {v : Word} :
    KeepsMemory addrs s (t.setPair p v) ↔ KeepsMemory addrs s t := by simp [KeepsMemory]

end Safety

namespace Machine

open Sys2Proof.Safety

/-! A stored word leaves every field but memory as it was. -/

@[simp] theorem State.writeBoth_a (s : State) (a v : Word) : (s.writeBoth a v).a = s.a := by
  simp [State.writeBoth]
@[simp] theorem State.writeBoth_b (s : State) (a v : Word) : (s.writeBoth a v).b = s.b := by
  simp [State.writeBoth]
@[simp] theorem State.writeBoth_c (s : State) (a v : Word) : (s.writeBoth a v).c = s.c := by
  simp [State.writeBoth]
@[simp] theorem State.writeBoth_d (s : State) (a v : Word) : (s.writeBoth a v).d = s.d := by
  simp [State.writeBoth]
@[simp] theorem State.writeBoth_e (s : State) (a v : Word) : (s.writeBoth a v).e = s.e := by
  simp [State.writeBoth]
@[simp] theorem State.writeBoth_h (s : State) (a v : Word) : (s.writeBoth a v).h = s.h := by
  simp [State.writeBoth]
@[simp] theorem State.writeBoth_l (s : State) (a v : Word) : (s.writeBoth a v).l = s.l := by
  simp [State.writeBoth]
@[simp] theorem State.writeBoth_sp (s : State) (a v : Word) : (s.writeBoth a v).sp = s.sp := by
  simp [State.writeBoth]
@[simp] theorem State.writeBoth_pc (s : State) (a v : Word) : (s.writeBoth a v).pc = s.pc := by
  simp [State.writeBoth]
@[simp] theorem State.writeBoth_flags (s : State) (a v : Word) : (s.writeBoth a v).flags = s.flags := by
  simp [State.writeBoth]
@[simp] theorem State.writeBoth_ie (s : State) (a v : Word) : (s.writeBoth a v).ie = s.ie := by
  simp [State.writeBoth]
@[simp] theorem State.writeBoth_pend (s : State) (a v : Word) : (s.writeBoth a v).pend = s.pend := by
  simp [State.writeBoth]
@[simp] theorem State.writeBoth_halt (s : State) (a v : Word) : (s.writeBoth a v).halt = s.halt := by
  simp [State.writeBoth]
@[simp] theorem State.writeBoth_budget (s : State) (a v : Word) : (s.writeBoth a v).budget = s.budget := by
  simp [State.writeBoth]
@[simp] theorem State.writeBoth_lastop (s : State) (a v : Word) : (s.writeBoth a v).lastop = s.lastop := by
  simp [State.writeBoth]
@[simp] theorem State.writeBoth_ports (s : State) (a v : Word) : (s.writeBoth a v).ports = s.ports := by
  simp [State.writeBoth]
@[simp] theorem State.writeBoth_inHandler (s : State) (a v : Word) : (s.writeBoth a v).inHandler = s.inHandler := by
  simp [State.writeBoth]
@[simp] theorem State.writeBoth_outHandler (s : State) (a v : Word) : (s.writeBoth a v).outHandler = s.outHandler := by
  simp [State.writeBoth]
@[simp] theorem State.writeBoth_inDraws (s : State) (a v : Word) : (s.writeBoth a v).inDraws = s.inDraws := by
  simp [State.writeBoth]
@[simp] theorem State.writeBoth_events (s : State) (a v : Word) : (s.writeBoth a v).events = s.events := by
  simp [State.writeBoth]
@[simp] theorem State.writeBoth_params (s : State) (a v : Word) : (s.writeBoth a v).params = s.params := by
  simp [State.writeBoth]
@[simp] theorem State.writeBoth_faultRec (s : State) (a v : Word) : (s.writeBoth a v).faultRec = s.faultRec := by
  simp [State.writeBoth]
@[simp] theorem State.reg_writeBoth (s : State) (a v : Word) (r : Reg) : (s.writeBoth a v).reg r = s.reg r := by
  simp [State.writeBoth]

/-- The lower byte of a stored word. -/
theorem State.readByte_writeBoth_low (s : State) (a v : Word) : (s.writeBoth a v).readByte a = loByte v := by
  have h : a ≠ a + 1 := fun h => by simpa using congrArg (· - a) h
  rw [State.writeBoth, State.readByte_writeByte_of_ne _ _ h, State.readByte_writeByte_same]

/-- The upper byte of a stored word. -/
theorem State.readByte_writeBoth_high (s : State) (a v : Word) : (s.writeBoth a v).readByte (a + 1) = hiByte v := by
  rw [State.writeBoth, State.readByte_writeByte_same]

/-- A stored word changes its two bytes alone. -/
theorem State.keepsMemory_writeBoth (s : State) (a v : Word) : KeepsMemory [a, a + 1] s (s.writeBoth a v) := by
  intro k hk
  simp only [List.mem_cons, List.not_mem_nil, or_false, not_or] at hk
  rw [State.writeBoth, State.readByte_writeByte_of_ne _ _ hk.2, State.readByte_writeByte_of_ne _ _ hk.1]

/-- The upper byte of a pushed word is at SP - 1. -/
theorem succ_sp_sub_two (a : Word) : a - 2 + 1 = a - 1 := by
  apply BitVec.eq_of_toNat_eq; simp [BitVec.toNat_sub, BitVec.toNat_add]; omega

/-- The lower byte of a pushed word. -/
theorem State.readByte_pushed_low (s : State) (v w : Word) :
    ((s.writeBoth (s.sp - 2) v).setSp w).readByte (s.sp - 2) = loByte v := by
  rw [State.readByte_setSp, State.readByte_writeBoth_low]

/-- The upper byte of a pushed word. -/
theorem State.readByte_pushed_high (s : State) (v w : Word) :
    ((s.writeBoth (s.sp - 2) v).setSp w).readByte (s.sp - 1) = hiByte v := by
  rw [State.readByte_setSp, ← succ_sp_sub_two, State.readByte_writeBoth_high]

/-- A push changes the two bytes below SP alone. -/
theorem State.keepsMemory_pushed (s : State) (v w : Word) :
    KeepsMemory [s.sp - 2, s.sp - 1] s ((s.writeBoth (s.sp - 2) v).setSp w) := by
  rw [keepsMemory_setSp, ← succ_sp_sub_two]; exact State.keepsMemory_writeBoth _ _ _

/-- A stored word changes no register. -/
@[simp] theorem State.keepsRegs_writeBoth {regs : List Reg} {s t : State} {a v : Word} :
    KeepsRegs regs s (t.writeBoth a v) ↔ KeepsRegs regs s t := by simp [State.writeBoth]

/-- The pair views read back what was written (10_state.md R22). -/
@[simp] theorem State.pair_setPair (s : State) (p : Pair) (v : Word) : (s.setPair p v).pair p = v := by
  cases p
  · exact wordOf_hiByte_loByte v
  · exact wordOf_hiByte_loByte v
  · exact wordOf_hiByte_loByte v
  · rfl

theorem State.writeByte_wf (s : State) (k : Word) (v : Byte) (h : s.mem.wf s.params.bootOpcode) :
    (s.writeByte k v).mem.wf s.params.bootOpcode :=
  Memory.write_wf _ _ v h k.isLt

theorem State.writeBoth_wf (s : State) (a v : Word) (h : s.mem.wf s.params.bootOpcode) :
    (s.writeBoth a v).mem.wf s.params.bootOpcode :=
  State.writeByte_wf _ _ _ (State.writeByte_wf _ _ _ h)

end Machine

end Sys2Proof
end

