-- ==== Sys2Proof/Laws/HostOps.lean ====
section
/-! SUPPORT. The parameters and the host operations: what well-formed parameters bound, what an image leaves in memory, and
what the video view shows. -/

namespace Sys2Proof.Machine

theorem defaultParams_wf : defaultParams.wf = true := by decide +kernel

/-- No opcode byte is free and none costs more than `MAX_COST`, an EI that delivers included
(70_reset_and_hazards.md R322). -/
theorem Params.cost_of_wf {p : Params} (h : p.wf = true) :
    (∀ op, 1 ≤ p.cycleCost op ∧ p.cycleCost op ≤ maxCost) ∧ p.cycleCost 0xFB + intCost ≤ maxCost := by
  simp only [Params.wf, Bool.and_eq_true, List.all_eq_true, List.mem_range, decide_eq_true_eq] at h
  refine ⟨fun op => ?_, h.1.2⟩
  have bounds := h.1.1 op.toNat op.isLt
  rwa [BitVec.ofNat_toNat, BitVec.setWidth_eq] at bounds

/-- Reading memory after an image is copied in. -/
theorem Memory.read_load (boot : Byte) (bytes : List Byte) (m : Memory) (k j : Nat) : (m.load boot k bytes).read boot j =
    if k ≤ j ∧ j < k + bytes.length then bytes.getD (j - k) 0 else m.read boot j := by
  induction bytes generalizing m k with
  | nil => rw [Memory.load, if_neg (by simp)]
  | cons v rest ih =>
    rw [Memory.load, ih, Memory.read_write, List.length_cons]
    obtain h | rfl | h := lt_trichotomy j k
    · rw [if_neg (by omega), if_neg (by omega), if_neg (by omega)]
    · rw [if_neg (by omega), if_pos rfl, if_pos (by omega), Nat.sub_self, List.getD_cons_zero]
    · by_cases hj : j < k + 1 + rest.length
      · rw [if_pos (by omega), if_pos (by omega), show j - k = j - (k + 1) + 1 by omega, List.getD_cons_succ]
      · rw [if_neg (by omega), if_neg (by omega), if_neg (by omega)]

/-- The video view has one byte for each address of its range (20_memory.md R76). -/
theorem videoView_length (s : State) :
    (videoView s).length = s.params.vramEnd.toNat + 1 - s.params.vramBase.toNat := by
  simp [videoView]

/-- The byte of the video view at an offset is that of memory (20_memory.md R76). -/
theorem videoView_getElem (s : State) (k : Nat) (h : k < (videoView s).length) :
    (videoView s)[k] = s.mem.read s.params.bootOpcode (s.params.vramBase.toNat + k) := by
  simp [videoView]

end Sys2Proof.Machine
end

