-- ==== Sys2Proof/Laws/PerInstr.lean ====
section
/-! SUPPORT. Per instruction: the encoder gives as many bytes as the opcode byte says (30_encoding.md R91), from 1 to 3,
and the instruction is well-formed. -/

namespace Sys2Proof.Laws.EncodedLength

/-- The bytes of an instruction are as many as its opcode byte alone says (30_encoding.md R91). -/
def Statement (i : Instr) : Prop := (encode i).length = lengthOf i.opcode ∧ i.wellFormed = true

theorem nop : Statement .nop := ⟨show _ = lengthOf 0x00 from rfl, rfl⟩
theorem lxiB (d16 : Word) : Statement (.lxiB d16) := ⟨show _ = lengthOf 0x01 from rfl, rfl⟩
theorem staxB : Statement .staxB := ⟨show _ = lengthOf 0x02 from rfl, rfl⟩
theorem inxB : Statement .inxB := ⟨show _ = lengthOf 0x03 from rfl, rfl⟩
theorem inrB : Statement .inrB := ⟨show _ = lengthOf 0x04 from rfl, rfl⟩
theorem dcrB : Statement .dcrB := ⟨show _ = lengthOf 0x05 from rfl, rfl⟩
theorem mviB (d8 : Byte) : Statement (.mviB d8) := ⟨show _ = lengthOf 0x06 from rfl, rfl⟩
theorem rlc : Statement .rlc := ⟨show _ = lengthOf 0x07 from rfl, rfl⟩
theorem undoc08 : Statement .undoc08 := ⟨show _ = lengthOf 0x08 from rfl, rfl⟩
theorem dadB : Statement .dadB := ⟨show _ = lengthOf 0x09 from rfl, rfl⟩
theorem ldaxB : Statement .ldaxB := ⟨show _ = lengthOf 0x0A from rfl, rfl⟩
theorem dcxB : Statement .dcxB := ⟨show _ = lengthOf 0x0B from rfl, rfl⟩
theorem inrC : Statement .inrC := ⟨show _ = lengthOf 0x0C from rfl, rfl⟩
theorem dcrC : Statement .dcrC := ⟨show _ = lengthOf 0x0D from rfl, rfl⟩
theorem mviC (d8 : Byte) : Statement (.mviC d8) := ⟨show _ = lengthOf 0x0E from rfl, rfl⟩
theorem rrc : Statement .rrc := ⟨show _ = lengthOf 0x0F from rfl, rfl⟩
theorem undoc10 : Statement .undoc10 := ⟨show _ = lengthOf 0x10 from rfl, rfl⟩
theorem lxiD (d16 : Word) : Statement (.lxiD d16) := ⟨show _ = lengthOf 0x11 from rfl, rfl⟩
theorem staxD : Statement .staxD := ⟨show _ = lengthOf 0x12 from rfl, rfl⟩
theorem inxD : Statement .inxD := ⟨show _ = lengthOf 0x13 from rfl, rfl⟩
theorem inrD : Statement .inrD := ⟨show _ = lengthOf 0x14 from rfl, rfl⟩
theorem dcrD : Statement .dcrD := ⟨show _ = lengthOf 0x15 from rfl, rfl⟩
theorem mviD (d8 : Byte) : Statement (.mviD d8) := ⟨show _ = lengthOf 0x16 from rfl, rfl⟩
theorem ral : Statement .ral := ⟨show _ = lengthOf 0x17 from rfl, rfl⟩
theorem undoc18 : Statement .undoc18 := ⟨show _ = lengthOf 0x18 from rfl, rfl⟩
theorem dadD : Statement .dadD := ⟨show _ = lengthOf 0x19 from rfl, rfl⟩
theorem ldaxD : Statement .ldaxD := ⟨show _ = lengthOf 0x1A from rfl, rfl⟩
theorem dcxD : Statement .dcxD := ⟨show _ = lengthOf 0x1B from rfl, rfl⟩
theorem inrE : Statement .inrE := ⟨show _ = lengthOf 0x1C from rfl, rfl⟩
theorem dcrE : Statement .dcrE := ⟨show _ = lengthOf 0x1D from rfl, rfl⟩
theorem mviE (d8 : Byte) : Statement (.mviE d8) := ⟨show _ = lengthOf 0x1E from rfl, rfl⟩
theorem rar : Statement .rar := ⟨show _ = lengthOf 0x1F from rfl, rfl⟩
theorem undoc20 : Statement .undoc20 := ⟨show _ = lengthOf 0x20 from rfl, rfl⟩
theorem lxiH (d16 : Word) : Statement (.lxiH d16) := ⟨show _ = lengthOf 0x21 from rfl, rfl⟩
theorem shld (a16 : Word) : Statement (.shld a16) := ⟨show _ = lengthOf 0x22 from rfl, rfl⟩
theorem inxH : Statement .inxH := ⟨show _ = lengthOf 0x23 from rfl, rfl⟩
theorem inrH : Statement .inrH := ⟨show _ = lengthOf 0x24 from rfl, rfl⟩
theorem dcrH : Statement .dcrH := ⟨show _ = lengthOf 0x25 from rfl, rfl⟩
theorem mviH (d8 : Byte) : Statement (.mviH d8) := ⟨show _ = lengthOf 0x26 from rfl, rfl⟩
theorem daa : Statement .daa := ⟨show _ = lengthOf 0x27 from rfl, rfl⟩
theorem undoc28 : Statement .undoc28 := ⟨show _ = lengthOf 0x28 from rfl, rfl⟩
theorem dadH : Statement .dadH := ⟨show _ = lengthOf 0x29 from rfl, rfl⟩
theorem lhld (a16 : Word) : Statement (.lhld a16) := ⟨show _ = lengthOf 0x2A from rfl, rfl⟩
theorem dcxH : Statement .dcxH := ⟨show _ = lengthOf 0x2B from rfl, rfl⟩
theorem inrL : Statement .inrL := ⟨show _ = lengthOf 0x2C from rfl, rfl⟩
theorem dcrL : Statement .dcrL := ⟨show _ = lengthOf 0x2D from rfl, rfl⟩
theorem mviL (d8 : Byte) : Statement (.mviL d8) := ⟨show _ = lengthOf 0x2E from rfl, rfl⟩
theorem cma : Statement .cma := ⟨show _ = lengthOf 0x2F from rfl, rfl⟩
theorem undoc30 : Statement .undoc30 := ⟨show _ = lengthOf 0x30 from rfl, rfl⟩
theorem lxiSp (d16 : Word) : Statement (.lxiSp d16) := ⟨show _ = lengthOf 0x31 from rfl, rfl⟩
theorem sta (a16 : Word) : Statement (.sta a16) := ⟨show _ = lengthOf 0x32 from rfl, rfl⟩
theorem inxSp : Statement .inxSp := ⟨show _ = lengthOf 0x33 from rfl, rfl⟩
theorem inrM : Statement .inrM := ⟨show _ = lengthOf 0x34 from rfl, rfl⟩
theorem dcrM : Statement .dcrM := ⟨show _ = lengthOf 0x35 from rfl, rfl⟩
theorem mviM (d8 : Byte) : Statement (.mviM d8) := ⟨show _ = lengthOf 0x36 from rfl, rfl⟩
theorem stc : Statement .stc := ⟨show _ = lengthOf 0x37 from rfl, rfl⟩
theorem undoc38 : Statement .undoc38 := ⟨show _ = lengthOf 0x38 from rfl, rfl⟩
theorem dadSp : Statement .dadSp := ⟨show _ = lengthOf 0x39 from rfl, rfl⟩
theorem lda (a16 : Word) : Statement (.lda a16) := ⟨show _ = lengthOf 0x3A from rfl, rfl⟩
theorem dcxSp : Statement .dcxSp := ⟨show _ = lengthOf 0x3B from rfl, rfl⟩
theorem inrA : Statement .inrA := ⟨show _ = lengthOf 0x3C from rfl, rfl⟩
theorem dcrA : Statement .dcrA := ⟨show _ = lengthOf 0x3D from rfl, rfl⟩
theorem mviA (d8 : Byte) : Statement (.mviA d8) := ⟨show _ = lengthOf 0x3E from rfl, rfl⟩
theorem cmc : Statement .cmc := ⟨show _ = lengthOf 0x3F from rfl, rfl⟩
theorem movBB : Statement .movBB := ⟨show _ = lengthOf 0x40 from rfl, rfl⟩
theorem movBC : Statement .movBC := ⟨show _ = lengthOf 0x41 from rfl, rfl⟩
theorem movBD : Statement .movBD := ⟨show _ = lengthOf 0x42 from rfl, rfl⟩
theorem movBE : Statement .movBE := ⟨show _ = lengthOf 0x43 from rfl, rfl⟩
theorem movBH : Statement .movBH := ⟨show _ = lengthOf 0x44 from rfl, rfl⟩
theorem movBL : Statement .movBL := ⟨show _ = lengthOf 0x45 from rfl, rfl⟩
theorem movBM : Statement .movBM := ⟨show _ = lengthOf 0x46 from rfl, rfl⟩
theorem movBA : Statement .movBA := ⟨show _ = lengthOf 0x47 from rfl, rfl⟩
theorem movCB : Statement .movCB := ⟨show _ = lengthOf 0x48 from rfl, rfl⟩
theorem movCC : Statement .movCC := ⟨show _ = lengthOf 0x49 from rfl, rfl⟩
theorem movCD : Statement .movCD := ⟨show _ = lengthOf 0x4A from rfl, rfl⟩
theorem movCE : Statement .movCE := ⟨show _ = lengthOf 0x4B from rfl, rfl⟩
theorem movCH : Statement .movCH := ⟨show _ = lengthOf 0x4C from rfl, rfl⟩
theorem movCL : Statement .movCL := ⟨show _ = lengthOf 0x4D from rfl, rfl⟩
theorem movCM : Statement .movCM := ⟨show _ = lengthOf 0x4E from rfl, rfl⟩
theorem movCA : Statement .movCA := ⟨show _ = lengthOf 0x4F from rfl, rfl⟩
theorem movDB : Statement .movDB := ⟨show _ = lengthOf 0x50 from rfl, rfl⟩
theorem movDC : Statement .movDC := ⟨show _ = lengthOf 0x51 from rfl, rfl⟩
theorem movDD : Statement .movDD := ⟨show _ = lengthOf 0x52 from rfl, rfl⟩
theorem movDE : Statement .movDE := ⟨show _ = lengthOf 0x53 from rfl, rfl⟩
theorem movDH : Statement .movDH := ⟨show _ = lengthOf 0x54 from rfl, rfl⟩
theorem movDL : Statement .movDL := ⟨show _ = lengthOf 0x55 from rfl, rfl⟩
theorem movDM : Statement .movDM := ⟨show _ = lengthOf 0x56 from rfl, rfl⟩
theorem movDA : Statement .movDA := ⟨show _ = lengthOf 0x57 from rfl, rfl⟩
theorem movEB : Statement .movEB := ⟨show _ = lengthOf 0x58 from rfl, rfl⟩
theorem movEC : Statement .movEC := ⟨show _ = lengthOf 0x59 from rfl, rfl⟩
theorem movED : Statement .movED := ⟨show _ = lengthOf 0x5A from rfl, rfl⟩
theorem movEE : Statement .movEE := ⟨show _ = lengthOf 0x5B from rfl, rfl⟩
theorem movEH : Statement .movEH := ⟨show _ = lengthOf 0x5C from rfl, rfl⟩
theorem movEL : Statement .movEL := ⟨show _ = lengthOf 0x5D from rfl, rfl⟩
theorem movEM : Statement .movEM := ⟨show _ = lengthOf 0x5E from rfl, rfl⟩
theorem movEA : Statement .movEA := ⟨show _ = lengthOf 0x5F from rfl, rfl⟩
theorem movHB : Statement .movHB := ⟨show _ = lengthOf 0x60 from rfl, rfl⟩
theorem movHC : Statement .movHC := ⟨show _ = lengthOf 0x61 from rfl, rfl⟩
theorem movHD : Statement .movHD := ⟨show _ = lengthOf 0x62 from rfl, rfl⟩
theorem movHE : Statement .movHE := ⟨show _ = lengthOf 0x63 from rfl, rfl⟩
theorem movHH : Statement .movHH := ⟨show _ = lengthOf 0x64 from rfl, rfl⟩
theorem movHL : Statement .movHL := ⟨show _ = lengthOf 0x65 from rfl, rfl⟩
theorem movHM : Statement .movHM := ⟨show _ = lengthOf 0x66 from rfl, rfl⟩
theorem movHA : Statement .movHA := ⟨show _ = lengthOf 0x67 from rfl, rfl⟩
theorem movLB : Statement .movLB := ⟨show _ = lengthOf 0x68 from rfl, rfl⟩
theorem movLC : Statement .movLC := ⟨show _ = lengthOf 0x69 from rfl, rfl⟩
theorem movLD : Statement .movLD := ⟨show _ = lengthOf 0x6A from rfl, rfl⟩
theorem movLE : Statement .movLE := ⟨show _ = lengthOf 0x6B from rfl, rfl⟩
theorem movLH : Statement .movLH := ⟨show _ = lengthOf 0x6C from rfl, rfl⟩
theorem movLL : Statement .movLL := ⟨show _ = lengthOf 0x6D from rfl, rfl⟩
theorem movLM : Statement .movLM := ⟨show _ = lengthOf 0x6E from rfl, rfl⟩
theorem movLA : Statement .movLA := ⟨show _ = lengthOf 0x6F from rfl, rfl⟩
theorem movMB : Statement .movMB := ⟨show _ = lengthOf 0x70 from rfl, rfl⟩
theorem movMC : Statement .movMC := ⟨show _ = lengthOf 0x71 from rfl, rfl⟩
theorem movMD : Statement .movMD := ⟨show _ = lengthOf 0x72 from rfl, rfl⟩
theorem movME : Statement .movME := ⟨show _ = lengthOf 0x73 from rfl, rfl⟩
theorem movMH : Statement .movMH := ⟨show _ = lengthOf 0x74 from rfl, rfl⟩
theorem movML : Statement .movML := ⟨show _ = lengthOf 0x75 from rfl, rfl⟩
theorem hlt : Statement .hlt := ⟨show _ = lengthOf 0x76 from rfl, rfl⟩
theorem movMA : Statement .movMA := ⟨show _ = lengthOf 0x77 from rfl, rfl⟩
theorem movAB : Statement .movAB := ⟨show _ = lengthOf 0x78 from rfl, rfl⟩
theorem movAC : Statement .movAC := ⟨show _ = lengthOf 0x79 from rfl, rfl⟩
theorem movAD : Statement .movAD := ⟨show _ = lengthOf 0x7A from rfl, rfl⟩
theorem movAE : Statement .movAE := ⟨show _ = lengthOf 0x7B from rfl, rfl⟩
theorem movAH : Statement .movAH := ⟨show _ = lengthOf 0x7C from rfl, rfl⟩
theorem movAL : Statement .movAL := ⟨show _ = lengthOf 0x7D from rfl, rfl⟩
theorem movAM : Statement .movAM := ⟨show _ = lengthOf 0x7E from rfl, rfl⟩
theorem movAA : Statement .movAA := ⟨show _ = lengthOf 0x7F from rfl, rfl⟩
theorem addB : Statement .addB := ⟨show _ = lengthOf 0x80 from rfl, rfl⟩
theorem addC : Statement .addC := ⟨show _ = lengthOf 0x81 from rfl, rfl⟩
theorem addD : Statement .addD := ⟨show _ = lengthOf 0x82 from rfl, rfl⟩
theorem addE : Statement .addE := ⟨show _ = lengthOf 0x83 from rfl, rfl⟩
theorem addH : Statement .addH := ⟨show _ = lengthOf 0x84 from rfl, rfl⟩
theorem addL : Statement .addL := ⟨show _ = lengthOf 0x85 from rfl, rfl⟩
theorem addM : Statement .addM := ⟨show _ = lengthOf 0x86 from rfl, rfl⟩
theorem addA : Statement .addA := ⟨show _ = lengthOf 0x87 from rfl, rfl⟩
theorem adcB : Statement .adcB := ⟨show _ = lengthOf 0x88 from rfl, rfl⟩
theorem adcC : Statement .adcC := ⟨show _ = lengthOf 0x89 from rfl, rfl⟩
theorem adcD : Statement .adcD := ⟨show _ = lengthOf 0x8A from rfl, rfl⟩
theorem adcE : Statement .adcE := ⟨show _ = lengthOf 0x8B from rfl, rfl⟩
theorem adcH : Statement .adcH := ⟨show _ = lengthOf 0x8C from rfl, rfl⟩
theorem adcL : Statement .adcL := ⟨show _ = lengthOf 0x8D from rfl, rfl⟩
theorem adcM : Statement .adcM := ⟨show _ = lengthOf 0x8E from rfl, rfl⟩
theorem adcA : Statement .adcA := ⟨show _ = lengthOf 0x8F from rfl, rfl⟩
theorem subB : Statement .subB := ⟨show _ = lengthOf 0x90 from rfl, rfl⟩
theorem subC : Statement .subC := ⟨show _ = lengthOf 0x91 from rfl, rfl⟩
theorem subD : Statement .subD := ⟨show _ = lengthOf 0x92 from rfl, rfl⟩
theorem subE : Statement .subE := ⟨show _ = lengthOf 0x93 from rfl, rfl⟩
theorem subH : Statement .subH := ⟨show _ = lengthOf 0x94 from rfl, rfl⟩
theorem subL : Statement .subL := ⟨show _ = lengthOf 0x95 from rfl, rfl⟩
theorem subM : Statement .subM := ⟨show _ = lengthOf 0x96 from rfl, rfl⟩
theorem subA : Statement .subA := ⟨show _ = lengthOf 0x97 from rfl, rfl⟩
theorem sbbB : Statement .sbbB := ⟨show _ = lengthOf 0x98 from rfl, rfl⟩
theorem sbbC : Statement .sbbC := ⟨show _ = lengthOf 0x99 from rfl, rfl⟩
theorem sbbD : Statement .sbbD := ⟨show _ = lengthOf 0x9A from rfl, rfl⟩
theorem sbbE : Statement .sbbE := ⟨show _ = lengthOf 0x9B from rfl, rfl⟩
theorem sbbH : Statement .sbbH := ⟨show _ = lengthOf 0x9C from rfl, rfl⟩
theorem sbbL : Statement .sbbL := ⟨show _ = lengthOf 0x9D from rfl, rfl⟩
theorem sbbM : Statement .sbbM := ⟨show _ = lengthOf 0x9E from rfl, rfl⟩
theorem sbbA : Statement .sbbA := ⟨show _ = lengthOf 0x9F from rfl, rfl⟩
theorem anaB : Statement .anaB := ⟨show _ = lengthOf 0xA0 from rfl, rfl⟩
theorem anaC : Statement .anaC := ⟨show _ = lengthOf 0xA1 from rfl, rfl⟩
theorem anaD : Statement .anaD := ⟨show _ = lengthOf 0xA2 from rfl, rfl⟩
theorem anaE : Statement .anaE := ⟨show _ = lengthOf 0xA3 from rfl, rfl⟩
theorem anaH : Statement .anaH := ⟨show _ = lengthOf 0xA4 from rfl, rfl⟩
theorem anaL : Statement .anaL := ⟨show _ = lengthOf 0xA5 from rfl, rfl⟩
theorem anaM : Statement .anaM := ⟨show _ = lengthOf 0xA6 from rfl, rfl⟩
theorem anaA : Statement .anaA := ⟨show _ = lengthOf 0xA7 from rfl, rfl⟩
theorem xraB : Statement .xraB := ⟨show _ = lengthOf 0xA8 from rfl, rfl⟩
theorem xraC : Statement .xraC := ⟨show _ = lengthOf 0xA9 from rfl, rfl⟩
theorem xraD : Statement .xraD := ⟨show _ = lengthOf 0xAA from rfl, rfl⟩
theorem xraE : Statement .xraE := ⟨show _ = lengthOf 0xAB from rfl, rfl⟩
theorem xraH : Statement .xraH := ⟨show _ = lengthOf 0xAC from rfl, rfl⟩
theorem xraL : Statement .xraL := ⟨show _ = lengthOf 0xAD from rfl, rfl⟩
theorem xraM : Statement .xraM := ⟨show _ = lengthOf 0xAE from rfl, rfl⟩
theorem xraA : Statement .xraA := ⟨show _ = lengthOf 0xAF from rfl, rfl⟩
theorem oraB : Statement .oraB := ⟨show _ = lengthOf 0xB0 from rfl, rfl⟩
theorem oraC : Statement .oraC := ⟨show _ = lengthOf 0xB1 from rfl, rfl⟩
theorem oraD : Statement .oraD := ⟨show _ = lengthOf 0xB2 from rfl, rfl⟩
theorem oraE : Statement .oraE := ⟨show _ = lengthOf 0xB3 from rfl, rfl⟩
theorem oraH : Statement .oraH := ⟨show _ = lengthOf 0xB4 from rfl, rfl⟩
theorem oraL : Statement .oraL := ⟨show _ = lengthOf 0xB5 from rfl, rfl⟩
theorem oraM : Statement .oraM := ⟨show _ = lengthOf 0xB6 from rfl, rfl⟩
theorem oraA : Statement .oraA := ⟨show _ = lengthOf 0xB7 from rfl, rfl⟩
theorem cmpB : Statement .cmpB := ⟨show _ = lengthOf 0xB8 from rfl, rfl⟩
theorem cmpC : Statement .cmpC := ⟨show _ = lengthOf 0xB9 from rfl, rfl⟩
theorem cmpD : Statement .cmpD := ⟨show _ = lengthOf 0xBA from rfl, rfl⟩
theorem cmpE : Statement .cmpE := ⟨show _ = lengthOf 0xBB from rfl, rfl⟩
theorem cmpH : Statement .cmpH := ⟨show _ = lengthOf 0xBC from rfl, rfl⟩
theorem cmpL : Statement .cmpL := ⟨show _ = lengthOf 0xBD from rfl, rfl⟩
theorem cmpM : Statement .cmpM := ⟨show _ = lengthOf 0xBE from rfl, rfl⟩
theorem cmpA : Statement .cmpA := ⟨show _ = lengthOf 0xBF from rfl, rfl⟩
theorem rnz : Statement .rnz := ⟨show _ = lengthOf 0xC0 from rfl, rfl⟩
theorem popB : Statement .popB := ⟨show _ = lengthOf 0xC1 from rfl, rfl⟩
theorem jnz (a16 : Word) : Statement (.jnz a16) := ⟨show _ = lengthOf 0xC2 from rfl, rfl⟩
theorem jmp (a16 : Word) : Statement (.jmp a16) := ⟨show _ = lengthOf 0xC3 from rfl, rfl⟩
theorem cnz (a16 : Word) : Statement (.cnz a16) := ⟨show _ = lengthOf 0xC4 from rfl, rfl⟩
theorem pushB : Statement .pushB := ⟨show _ = lengthOf 0xC5 from rfl, rfl⟩
theorem adi (d8 : Byte) : Statement (.adi d8) := ⟨show _ = lengthOf 0xC6 from rfl, rfl⟩
theorem rst0 : Statement .rst0 := ⟨show _ = lengthOf 0xC7 from rfl, rfl⟩
theorem rz : Statement .rz := ⟨show _ = lengthOf 0xC8 from rfl, rfl⟩
theorem ret : Statement .ret := ⟨show _ = lengthOf 0xC9 from rfl, rfl⟩
theorem jz (a16 : Word) : Statement (.jz a16) := ⟨show _ = lengthOf 0xCA from rfl, rfl⟩
theorem undocCB : Statement .undocCB := ⟨show _ = lengthOf 0xCB from rfl, rfl⟩
theorem cz (a16 : Word) : Statement (.cz a16) := ⟨show _ = lengthOf 0xCC from rfl, rfl⟩
theorem call (a16 : Word) : Statement (.call a16) := ⟨show _ = lengthOf 0xCD from rfl, rfl⟩
theorem aci (d8 : Byte) : Statement (.aci d8) := ⟨show _ = lengthOf 0xCE from rfl, rfl⟩
theorem rst1 : Statement .rst1 := ⟨show _ = lengthOf 0xCF from rfl, rfl⟩
theorem rnc : Statement .rnc := ⟨show _ = lengthOf 0xD0 from rfl, rfl⟩
theorem popD : Statement .popD := ⟨show _ = lengthOf 0xD1 from rfl, rfl⟩
theorem jnc (a16 : Word) : Statement (.jnc a16) := ⟨show _ = lengthOf 0xD2 from rfl, rfl⟩
theorem outPort (d8 : Byte) : Statement (.outPort d8) := ⟨show _ = lengthOf 0xD3 from rfl, rfl⟩
theorem cnc (a16 : Word) : Statement (.cnc a16) := ⟨show _ = lengthOf 0xD4 from rfl, rfl⟩
theorem pushD : Statement .pushD := ⟨show _ = lengthOf 0xD5 from rfl, rfl⟩
theorem sui (d8 : Byte) : Statement (.sui d8) := ⟨show _ = lengthOf 0xD6 from rfl, rfl⟩
theorem rst2 : Statement .rst2 := ⟨show _ = lengthOf 0xD7 from rfl, rfl⟩
theorem rc : Statement .rc := ⟨show _ = lengthOf 0xD8 from rfl, rfl⟩
theorem undocD9 : Statement .undocD9 := ⟨show _ = lengthOf 0xD9 from rfl, rfl⟩
theorem jc (a16 : Word) : Statement (.jc a16) := ⟨show _ = lengthOf 0xDA from rfl, rfl⟩
theorem inPort (d8 : Byte) : Statement (.inPort d8) := ⟨show _ = lengthOf 0xDB from rfl, rfl⟩
theorem cc (a16 : Word) : Statement (.cc a16) := ⟨show _ = lengthOf 0xDC from rfl, rfl⟩
theorem undocDD : Statement .undocDD := ⟨show _ = lengthOf 0xDD from rfl, rfl⟩
theorem sbi (d8 : Byte) : Statement (.sbi d8) := ⟨show _ = lengthOf 0xDE from rfl, rfl⟩
theorem rst3 : Statement .rst3 := ⟨show _ = lengthOf 0xDF from rfl, rfl⟩
theorem rpo : Statement .rpo := ⟨show _ = lengthOf 0xE0 from rfl, rfl⟩
theorem popH : Statement .popH := ⟨show _ = lengthOf 0xE1 from rfl, rfl⟩
theorem jpo (a16 : Word) : Statement (.jpo a16) := ⟨show _ = lengthOf 0xE2 from rfl, rfl⟩
theorem xthl : Statement .xthl := ⟨show _ = lengthOf 0xE3 from rfl, rfl⟩
theorem cpo (a16 : Word) : Statement (.cpo a16) := ⟨show _ = lengthOf 0xE4 from rfl, rfl⟩
theorem pushH : Statement .pushH := ⟨show _ = lengthOf 0xE5 from rfl, rfl⟩
theorem ani (d8 : Byte) : Statement (.ani d8) := ⟨show _ = lengthOf 0xE6 from rfl, rfl⟩
theorem rst4 : Statement .rst4 := ⟨show _ = lengthOf 0xE7 from rfl, rfl⟩
theorem rpe : Statement .rpe := ⟨show _ = lengthOf 0xE8 from rfl, rfl⟩
theorem pchl : Statement .pchl := ⟨show _ = lengthOf 0xE9 from rfl, rfl⟩
theorem jpe (a16 : Word) : Statement (.jpe a16) := ⟨show _ = lengthOf 0xEA from rfl, rfl⟩
theorem xchg : Statement .xchg := ⟨show _ = lengthOf 0xEB from rfl, rfl⟩
theorem cpe (a16 : Word) : Statement (.cpe a16) := ⟨show _ = lengthOf 0xEC from rfl, rfl⟩
theorem undocED : Statement .undocED := ⟨show _ = lengthOf 0xED from rfl, rfl⟩
theorem xri (d8 : Byte) : Statement (.xri d8) := ⟨show _ = lengthOf 0xEE from rfl, rfl⟩
theorem rst5 : Statement .rst5 := ⟨show _ = lengthOf 0xEF from rfl, rfl⟩
theorem rp : Statement .rp := ⟨show _ = lengthOf 0xF0 from rfl, rfl⟩
theorem popPsw : Statement .popPsw := ⟨show _ = lengthOf 0xF1 from rfl, rfl⟩
theorem jp (a16 : Word) : Statement (.jp a16) := ⟨show _ = lengthOf 0xF2 from rfl, rfl⟩
theorem di : Statement .di := ⟨show _ = lengthOf 0xF3 from rfl, rfl⟩
theorem cp (a16 : Word) : Statement (.cp a16) := ⟨show _ = lengthOf 0xF4 from rfl, rfl⟩
theorem pushPsw : Statement .pushPsw := ⟨show _ = lengthOf 0xF5 from rfl, rfl⟩
theorem ori (d8 : Byte) : Statement (.ori d8) := ⟨show _ = lengthOf 0xF6 from rfl, rfl⟩
theorem rst6 : Statement .rst6 := ⟨show _ = lengthOf 0xF7 from rfl, rfl⟩
theorem rm : Statement .rm := ⟨show _ = lengthOf 0xF8 from rfl, rfl⟩
theorem sphl : Statement .sphl := ⟨show _ = lengthOf 0xF9 from rfl, rfl⟩
theorem jm (a16 : Word) : Statement (.jm a16) := ⟨show _ = lengthOf 0xFA from rfl, rfl⟩
theorem ei : Statement .ei := ⟨show _ = lengthOf 0xFB from rfl, rfl⟩
theorem cm (a16 : Word) : Statement (.cm a16) := ⟨show _ = lengthOf 0xFC from rfl, rfl⟩
theorem undocFD : Statement .undocFD := ⟨show _ = lengthOf 0xFD from rfl, rfl⟩
theorem cpi (d8 : Byte) : Statement (.cpi d8) := ⟨show _ = lengthOf 0xFE from rfl, rfl⟩
theorem rst7 : Statement .rst7 := ⟨show _ = lengthOf 0xFF from rfl, rfl⟩

end Sys2Proof.Laws.EncodedLength
end

