-- ==== Sys2Proof/Laws/Step.lean ====
section
/-! SUPPORT. What a step can do, said once: it stops on a recorded fault, idles when halted, and otherwise runs the
instruction fetched. -/

namespace Sys2Proof.Machine

theorem startStep_of_fault {s : State} {f : Fault} (h : s.faultRec = some f) : startStep s = .stopped f := by
  rw [startStep, h]

theorem startStep_of_halt {s : State} (h : s.faultRec = none) (hh : s.halt = true) :
    startStep s = .idled (s.charge s.params.idleCost) := by
  rw [startStep, h]; exact if_pos hh

theorem startStep_of_running {s : State} (h : s.faultRec = none) (hh : s.halt = false) :
    startStep s = match fetch s with
      | .ok i => .fetched i { s with lastop := s.opcodeByte }
      | .error f => .stopped f := by
  rw [startStep, h]; exact if_neg (by simp [hh])

/-- Everything a step that answers a next state can have done. -/
theorem step_eq_next {s t : State} : step s = .next t ↔ s.faultRec = none ∧
    ((s.halt = true ∧ t = s.charge s.params.idleCost) ∨
      (s.halt = false ∧ ∃ i u, fetch s = .ok i ∧ exec i { s with lastop := s.opcodeByte } = .next u ∧
        t = retire { s with lastop := s.opcodeByte } u)) := by
  obtain hf | ⟨f, hf⟩ := Option.eq_none_or_eq_some s.faultRec
  · obtain hh | hh := (Bool.eq_false_or_eq_true s.halt).symm
    · rw [step, startStep_of_running hf hh]
      generalize ({ s with lastop := s.opcodeByte } : State) = s'
      rcases he : fetch s with f | i
      · simp [hh]
      · rcases hx : exec i s' with u | f | r <;> simp [hx, hf, hh, eq_comm]
    · simp [step, startStep_of_halt hf hh, hf, hh, eq_comm]
  · simp [step, startStep_of_fault hf, hf]

/-- Everything a step that faults can have done. -/
theorem step_eq_fault {s : State} {f : Fault} : step s = .fault f ↔ s.faultRec = some f ∨
    (s.faultRec = none ∧ s.halt = false ∧ (fetch s = .error f ∨
      ∃ i, fetch s = .ok i ∧ exec i { s with lastop := s.opcodeByte } = .fault f)) := by
  obtain hf | ⟨g, hf⟩ := Option.eq_none_or_eq_some s.faultRec
  · obtain hh | hh := (Bool.eq_false_or_eq_true s.halt).symm
    · rw [step, startStep_of_running hf hh]
      generalize ({ s with lastop := s.opcodeByte } : State) = s'
      rcases he : fetch s with g | i
      · simp [hf, hh]
      · rcases hx : exec i s' with u | g | r <;> simp [hx, hf, hh]
    · simp [step, startStep_of_halt hf hh, hf, hh]
  · simp [step, startStep_of_fault hf, hf]

/-- The first step of a run. -/
theorem core_run_next {k : Nat} {s t : State} (h : step s = .next t) :
    Sys2Proof.core.run (k + 1) s = Sys2Proof.core.run k t := by
  have hs : Sys2Proof.core.step s = .next t := h
  exact (Host.Core.run.eq_2 Sys2Proof.core s k).trans (by rw [hs])

/-- A run whose first step faults. -/
theorem core_run_fault {k : Nat} {s : State} {f : Fault} (h : step s = .fault f) :
    Sys2Proof.core.run (k + 1) s = .fault f := by
  have hs : Sys2Proof.core.step s = .fault f := h
  exact (Host.Core.run.eq_2 Sys2Proof.core s k).trans (by rw [hs])

end Sys2Proof.Machine
end

