-- ==== Sys2Proof/Tests/Slice0.lean ====
section
/-! SUPPORT. The model's own tests: the well-formedness checks, decoding, one step of each instruction with the results the
specification's examples give, the host operations, and a witness for the hypotheses of each statement. -/

namespace Sys2Proof.Tests

set_option Elab.async false

open Sys2Proof.Machine Sys2Proof.Safety

/-- The state of the examples: PC 0x0100, SP 0x2400, memory empty. -/
def ready : State := { State.reset with pc := 0x0100, sp := 0x2400, mem := Memory.zeroed 0xC3 }

/-- `ready` with another PC. -/
def atPc (pc : Word) : State := { State.reset with pc := pc, sp := 0x2400 }

/-- `ready` with another SP. -/
def atSp (sp : Word) : State := { State.reset with pc := 0x0100, sp := sp }

/-- What `f` reads in a next state. -/
def after {α : Type} (o : Out) (f : State → α) : Option α :=
  match o with
  | .next t => some (f t)
  | _ => none

/-- The fault a step stops with. -/
def faultOf (o : Out) : Option Fault :=
  match o with
  | .fault r => some r
  | _ => none

theorem exists_next {o : Out} (h : (after o fun _ => ()) = some ()) : ∃ t, o = .next t := by
  cases o <;> simp [after] at h ⊢

theorem exists_ok {o : Except Fault State} (h : o.isOk = true) : ∃ t, o = .ok t := by
  cases o <;> simp_all [Except.isOk, Except.toBool]

/-- The answer of a host operation. -/
def answerOf (o : Served) : Option Answer :=
  match o with
  | .next (_, answer) => some answer
  | _ => none


/-! Well-formedness: an ill-formed term for each check. -/

/-- 60_exceptions.md R271 (a): id 8. -/
theorem test_vectorIdOk_refuses : vectorIdOk 7 = true ∧ vectorIdOk 8 = false := by decide +kernel

/-- 70_reset_and_hazards.md R321: a budget of 0. -/
theorem test_budgetOk_refuses : budgetOk 1 = true ∧ budgetOk 0 = false ∧ budgetOk (-1) = false := by decide +kernel

/-- 20_memory.md R75: two bytes at the last address. -/
theorem test_imageFits_refuses : imageFits 0xFFFF 1 = true ∧ imageFits 0xFFFF 2 = false := by decide +kernel

/-- 00_scope.md R8 and 70_reset_and_hazards.md R322: a free step, a step above MAX_COST, an EI that could charge 19, a reversed range. -/
theorem test_paramsWf_refuses : defaultParams.wf = true ∧
    ({ defaultParams with cycleRows := List.replicate 16 (List.replicate 16 0) } : Params).wf = false ∧
    ({ defaultParams with cycleRows := List.replicate 16 (List.replicate 16 19) } : Params).wf = false ∧
    ({ defaultParams with cycleRows := List.replicate 16 (List.replicate 16 8) } : Params).wf = false ∧
    ({ defaultParams with vramBase := 0x4000 } : Params).wf = false := by decide +kernel

/-- 30_encoding.md R102: no field of an encoding is reserved. -/
theorem test_wellFormed_admits_every_operand : (Instr.lxiSp 0xFFFF).wellFormed = true ∧ (Instr.outPort 0xFF).wellFormed = true := by decide +kernel


/-! Decoding: words written out bit by bit from the encodings of the rules. -/

/-- R120: 01 ddd sss with ddd = A, sss = E. -/
theorem test_decode_mov : decodeTableWord 8 0b01_111_011 = some .movAE := by decide +kernel

/-- R121: 01 ddd 110 with ddd = H. -/
theorem test_decode_mov_from_m : decodeTableWord 8 0b01_100_110 = some .movHM := by decide +kernel

/-- R128: 0x2A, low byte, high byte. -/
theorem test_decode_lhld : decodeTableWord 24 0b10101011_11001101_00101010 = some (.lhld 0xABCD) := by decide +kernel

/-- R131: 000 p 0010 with p = D. -/
theorem test_decode_stax : decodeTableWord 8 0b000_1_0010 = some .staxD := by decide +kernel

/-- R154: 11 aaa 110 with aaa = SBB. -/
theorem test_decode_sbi : decodeTableWord 16 0b10000001_11_011_110 = some (.sbi 0x81) := by decide +kernel

/-- R161: 00 pp 1001 with pp = SP. -/
theorem test_decode_dad : decodeTableWord 8 0b00_11_1001 = some .dadSp := by decide +kernel

/-- R189: 10 aaa sss with aaa = CMP, sss = L. -/
theorem test_decode_cmp : decodeTableWord 8 0b10_111_101 = some .cmpL := by decide +kernel

/-- R195: 0x1F. -/
theorem test_decode_rar : decodeTableWord 8 0b00011111 = some .rar := by decide +kernel

/-- R215: 11 ccc 100 with ccc = PO. -/
theorem test_decode_cpo : decodeTableWord 24 0b00010010_00110100_11_100_100 = some (.cpo 0x1234) := by decide +kernel

/-- R217: 11 ccc 000 with ccc = M. -/
theorem test_decode_rm : decodeTableWord 8 0b11_111_000 = some .rm := by decide +kernel

/-- R218: 11 nnn 111 with n = 5. -/
theorem test_decode_rst : decodeTableWord 8 0b11_101_111 = some .rst5 := by decide +kernel

/-- R232: 11 pp 0001 with pp = H. -/
theorem test_decode_pop : decodeTableWord 8 0b11_10_0001 = some .popH := by decide +kernel

/-- R236: 0xDB, then the port. -/
theorem test_decode_in : decodeTableWord 16 0b00000001_11011011 = some (.inPort 0x01) := by decide +kernel

/-- R260: 0xCB reads no operand. -/
theorem test_decode_undocumented : decodeTableWord 8 0b11001011 = some .undocCB := by decide +kernel

/-- R101, R102: no opcode byte is rejected, and exactly 12 are undocumented. -/
theorem test_decode_total : ((List.range 256).countP fun k => (decodeTableWord 24 k).isSome) = 256 ∧
    ((List.range 256).countP fun k => defaultParams.cycleCost (BitVec.ofNat 8 k) == 4 && [0x08, 0x10, 0x18, 0x20, 0x28, 0x30, 0x38, 0xCB, 0xD9, 0xDD, 0xED, 0xFD].contains k) = 12 := by decide +kernel

/-- An operand byte that is missing. -/
theorem test_decode_rejects_by_name : decode [] = .error .noOpcode ∧ decode [0x3E#8] = .error (.operandMissing 0x3E) ∧
    decode [0xC3#8, 0x00#8] = .error (.operandMissing 0xC3) := ⟨rfl, rfl, rfl⟩


/-! Data transfer: the examples of 40_data_transfer.md. -/

/-- R120. -/
theorem test_mov : after (exec .movBC { ready with b := 0x12, c := 0x34 }) (fun t => (t.pair .bc, t.pc)) = some (0x3434, 0x0101) := by decide +kernel

/-- R121, the old HL. -/
theorem test_mov_from_m : after (exec .movHM (({ ready with h := 0x20, l := 0x00 } : State).writeByte 0x2000 0x5A)) (fun t => (t.h, t.l)) = some (0x5A, 0x00) := by decide +kernel

/-- R122: MOV M,H stores the high byte of its own address. -/
theorem test_mov_to_m : after (exec .movMH { ready with h := 0x20, l := 0x01 }) (fun t => t.readByte 0x2001) = some 0x20 := by decide +kernel

/-- R123. -/
theorem test_mvi : after (exec (.mviA 0x42) ready) (fun t => (t.a, t.pc)) = some (0x42, 0x0102) := by decide +kernel

/-- R124. -/
theorem test_mviM : after (exec (.mviM 0x99) { ready with h := 0x20, l := 0x01 }) (fun t => (t.readByte 0x2001, t.pc)) = some (0x99, 0x0102) := by decide +kernel

/-- R125. -/
theorem test_lxi : after (exec (.lxiH 0x1234) ready) (fun t => (t.h, t.l, t.pc)) = some (0x12, 0x34, 0x0103) := by decide +kernel

/-- R126. -/
theorem test_lda : after (exec (.lda 0x2050) (ready.writeByte 0x2050 0xC8)) (fun t => t.a) = some 0xC8 := by decide +kernel

/-- R127. -/
theorem test_sta : after (exec (.sta 0x2050) { ready with a := 0x3C }) (fun t => t.readByte 0x2050) = some 0x3C := by decide +kernel

/-- R128. -/
theorem test_lhld : after (exec (.lhld 0x2000) ((ready.writeByte 0x2000 0x34).writeByte 0x2001 0x12)) (fun t => t.hl) = some 0x1234 := by decide +kernel

/-- R129. -/
theorem test_shld : after (exec (.shld 0x2100) { ready with h := 0xBE, l := 0xEF }) (fun t => (t.readByte 0x2100, t.readByte 0x2101)) = some (0xEF, 0xBE) := by decide +kernel

/-- R130. -/
theorem test_ldax : after (exec .ldaxD (({ ready with d := 0x20, e := 0x10 } : State).writeByte 0x2010 0x07)) (fun t => t.a) = some 0x07 := by decide +kernel

/-- R131. -/
theorem test_stax : after (exec .staxB { ready with b := 0x20, c := 0x20, a := 0xAA }) (fun t => t.readByte 0x2020) = some 0xAA := by decide +kernel

/-- R132. -/
theorem test_xchg : after (exec .xchg { ready with d := 0x11, e := 0x11, h := 0x22, l := 0x22 }) (fun t => (t.pair .de, t.hl)) = some (0x2222, 0x1111) := by decide +kernel


/-! Arithmetic: the examples of 41_arithmetic.md, flags as the packed byte. -/

/-- R143. -/
theorem test_add : after (exec .addB { ready with a := 0xFF, b := 0x01 }) (fun t => (t.a, t.flags.pack)) = some (0x00, 0x57) := by decide +kernel

/-- R144. -/
theorem test_addM : after (exec .addM (({ ready with a := 0x2E, h := 0x20, l := 0x00 } : State).writeByte 0x2000 0x6C)) (fun t => (t.a, t.flags.pack)) = some (0x9A, 0x96) := by decide +kernel

/-- R145. -/
theorem test_adi : after (exec (.adi 0x09) { ready with a := 0x09 }) (fun t => (t.a, t.flags.pack)) = some (0x12, 0x16) := by decide +kernel

/-- R146. -/
theorem test_adc : after (exec .adcC { ready with a := 0x3D, c := 0x42, flags := Flags.unpack 0x01 }) (fun t => (t.a, t.flags.pack)) = some (0x80, 0x92) := by decide +kernel

/-- R147. -/
theorem test_adcM : after (exec .adcM (({ ready with a := 0x3D, h := 0x20, l := 0x00 } : State).writeByte 0x2000 0x42)) (fun t => (t.a, t.flags.pack)) = some (0x7F, 0x02) := by decide +kernel

/-- R148. -/
theorem test_aci : after (exec (.aci 0xBE) { ready with a := 0x56, flags := Flags.unpack 0x01 }) (fun t => (t.a, t.flags.pack)) = some (0x15, 0x13) := by decide +kernel

/-- R149. -/
theorem test_sub : after (exec .subB { ready with a := 0x10, b := 0x01 }) (fun t => (t.a, t.flags.pack)) = some (0x0F, 0x06) := by decide +kernel

/-- R149, the corner case SUB A. -/
theorem test_sub_self : after (exec .subA { ready with a := 0x3E }) (fun t => (t.a, t.flags.pack)) = some (0x00, 0x56) := by decide +kernel

/-- R150. -/
theorem test_subM : after (exec .subM (({ ready with a := 0x80, h := 0x20, l := 0x00 } : State).writeByte 0x2000 0x01)) (fun t => (t.a, t.flags.pack)) = some (0x7F, 0x02) := by decide +kernel

/-- R151. -/
theorem test_sui : after (exec (.sui 0x01) { ready with a := 0x00 }) (fun t => (t.a, t.flags.pack)) = some (0xFF, 0x87) := by decide +kernel

/-- R152. -/
theorem test_sbb : after (exec .sbbL { ready with a := 0x04, l := 0x02, flags := Flags.unpack 0x01 }) (fun t => (t.a, t.flags.pack)) = some (0x01, 0x12) := by decide +kernel

/-- R153. -/
theorem test_sbbM : after (exec .sbbM (({ ready with a := 0x10, h := 0x20, l := 0x00 } : State).writeByte 0x2000 0x01)) (fun t => (t.a, t.flags.pack)) = some (0x0F, 0x06) := by decide +kernel

/-- R154. -/
theorem test_sbi : after (exec (.sbi 0x00) { ready with a := 0x00, flags := Flags.unpack 0x01 }) (fun t => (t.a, t.flags.pack)) = some (0xFF, 0x87) := by decide +kernel

/-- R155, CY kept. -/
theorem test_inr : after (exec .inrB { ready with b := 0x0F, flags := Flags.unpack 0x01 }) (fun t => (t.b, t.flags.pack)) = some (0x10, 0x13) := by decide +kernel

/-- R156. -/
theorem test_inrM : after (exec .inrM (({ ready with h := 0x20, l := 0x00 } : State).writeByte 0x2000 0x7F)) (fun t => (t.readByte 0x2000, t.flags.pack)) = some (0x80, 0x92) := by decide +kernel

/-- R157. -/
theorem test_dcr : after (exec .dcrC { ready with c := 0x10 }) (fun t => (t.c, t.flags.pack)) = some (0x0F, 0x06) := by decide +kernel

/-- R158. -/
theorem test_dcrM : after (exec .dcrM ({ ready with h := 0x20, l := 0x00 } : State)) (fun t => (t.readByte 0x2000, t.flags.pack)) = some (0xFF, 0x86) := by decide +kernel

/-- R159. -/
theorem test_inx : after (exec .inxD { ready with d := 0x38, e := 0xFF }) (fun t => t.pair .de) = some 0x3900 := by decide +kernel

/-- R159: the pair wraps under either policy. -/
theorem test_inx_sp : after (exec .inxSp { ready with sp := 0xFFFF }) (fun t => t.sp) = some 0x0000 := by decide +kernel

/-- R160. -/
theorem test_dcx : after (exec .dcxB ready) (fun t => t.pair .bc) = some 0xFFFF := by decide +kernel

/-- R161. -/
theorem test_dad : after (exec .dadB { ready with b := 0x33, c := 0x9F, h := 0xA1, l := 0x7B }) (fun t => (t.hl, t.flags.cy)) = some (0xD51A, false) := by decide +kernel

/-- R161. -/
theorem test_dad_carry : after (exec .dadH { ready with h := 0x80, l := 0x00 }) (fun t => (t.hl, t.flags.pack)) = some (0x0000, 0x03) := by decide +kernel

/-- R162. -/
theorem test_daa : after (exec .daa { ready with a := 0x9B }) (fun t => (t.a, t.flags.pack)) = some (0x01, 0x13) := by decide +kernel

/-- R162: the sum 9 + 9. -/
theorem test_daa_after_sum : after (exec .daa { ready with a := 0x12, flags := Flags.unpack 0x10 }) (fun t => (t.a, t.flags.pack)) = some (0x18, 0x06) := by decide +kernel


/-! Logical: the examples of 42_logical.md. -/

/-- R182. -/
theorem test_ani : after (exec (.ani 0x0F) { ready with a := 0x3A }) (fun t => (t.a, t.flags.pack)) = some (0x0A, 0x16) := by decide +kernel

/-- R181. -/
theorem test_anaM : after (exec .anaM (({ ready with a := 0xF0, h := 0x20, l := 0x00 } : State).writeByte 0x2000 0x33)) (fun t => (t.a, t.flags.pack)) = some (0x30, 0x06) := by decide +kernel

/-- R180: AC is bit 3 of the OR of the operands. -/
theorem test_ana : after (exec .anaB { ready with a := 0x08, b := 0x00 }) (fun t => (t.a, t.flags.pack)) = some (0x00, 0x56) := by decide +kernel

/-- R183, the corner case XRA A. -/
theorem test_xra : after (exec .xraA { ready with a := 0x5C, flags := Flags.unpack 0xFF }) (fun t => (t.a, t.flags.pack)) = some (0x00, 0x46) := by decide +kernel

/-- R184. -/
theorem test_xraM : after (exec .xraM (({ ready with a := 0x0F, h := 0x20, l := 0x00 } : State).writeByte 0x2000 0xF1)) (fun t => (t.a, t.flags.pack)) = some (0xFE, 0x82) := by decide +kernel

/-- R185. -/
theorem test_xri : after (exec (.xri 0x81) { ready with a := 0x3B }) (fun t => (t.a, t.flags.pack)) = some (0xBA, 0x82) := by decide +kernel

/-- R186. -/
theorem test_ora : after (exec .oraC { ready with a := 0x33, c := 0x0F }) (fun t => (t.a, t.flags.pack)) = some (0x3F, 0x06) := by decide +kernel

/-- R187. -/
theorem test_oraM : after (exec .oraM { ready with h := 0x20, l := 0x00 }) (fun t => (t.a, t.flags.pack)) = some (0x00, 0x46) := by decide +kernel

/-- R188. -/
theorem test_ori : after (exec (.ori 0x0F) { ready with a := 0xB5 }) (fun t => (t.a, t.flags.pack)) = some (0xBF, 0x82) := by decide +kernel

/-- R189. -/
theorem test_cmp : after (exec .cmpE { ready with a := 0x02, e := 0x05 }) (fun t => (t.a, t.flags.pack)) = some (0x02, 0x83) := by decide +kernel

/-- R190. -/
theorem test_cmpM : after (exec .cmpM (({ ready with a := 0xE5, h := 0x20, l := 0x00 } : State).writeByte 0x2000 0x05)) (fun t => (t.a, t.flags.pack)) = some (0xE5, 0x92) := by decide +kernel

/-- R191. -/
theorem test_cpi : after (exec (.cpi 0x01) { ready with a := 0x00 }) (fun t => (t.a, t.flags.pack)) = some (0x00, 0x87) := by decide +kernel

/-- R192. -/
theorem test_rlc : after (exec .rlc { ready with a := 0xF2 }) (fun t => (t.a, t.flags.cy)) = some (0xE5, true) := by decide +kernel

/-- R193. -/
theorem test_rrc : after (exec .rrc { ready with a := 0xF2 }) (fun t => (t.a, t.flags.cy)) = some (0x79, false) := by decide +kernel

/-- R194. -/
theorem test_ral : after (exec .ral { ready with a := 0xB5 }) (fun t => (t.a, t.flags.cy)) = some (0x6A, true) := by decide +kernel

/-- R195. -/
theorem test_rar : after (exec .rar { ready with a := 0x6A, flags := Flags.unpack 0x01 }) (fun t => (t.a, t.flags.cy)) = some (0xB5, false) := by decide +kernel

/-- R196. -/
theorem test_cma : after (exec .cma { ready with a := 0x51 }) (fun t => (t.a, t.flags.pack)) = some (0xAE, 0x02) := by decide +kernel

/-- R197. -/
theorem test_cmc : after (exec .cmc ready) (fun t => t.flags.pack) = some 0x03 := by decide +kernel

/-- R198. -/
theorem test_stc : after (exec .stc { ready with flags := Flags.unpack 0xD6 }) (fun t => t.flags.pack) = some 0xD7 := by decide +kernel


/-! Branch: the examples of 43_branch.md. -/

/-- R211. -/
theorem test_jmp : after (exec (.jmp 0x1234) ready) (fun t => t.pc) = some 0x1234 := by decide +kernel

/-- R212. -/
theorem test_jz_taken : after (exec (.jz 0x2000) { ready with flags := Flags.unpack 0x40 }) (fun t => t.pc) = some 0x2000 := by decide +kernel

/-- R212. -/
theorem test_jz_not_taken : after (exec (.jz 0x2000) ready) (fun t => t.pc) = some 0x0103 := by decide +kernel

/-- R213. -/
theorem test_pchl : after (exec .pchl { ready with h := 0x43, l := 0x21 }) (fun t => t.pc) = some 0x4321 := by decide +kernel

/-- R214. -/
theorem test_call : after (exec (.call 0x0200) ready) (fun t => (t.pc, t.sp, t.readByte 0x23FE, t.readByte 0x23FF)) = some (0x0200, 0x23FE, 0x03, 0x01) := by decide +kernel

/-- R215. -/
theorem test_cc_taken : after (exec (.cc 0x0300) { ready with flags := Flags.unpack 0x01 }) (fun t => (t.pc, t.sp, t.readByte 0x23FE, t.readByte 0x23FF)) = some (0x0300, 0x23FE, 0x03, 0x01) := by decide +kernel

/-- R215. -/
theorem test_cc_not_taken : after (exec (.cc 0x0300) ready) (fun t => (t.pc, t.sp)) = some (0x0103, 0x2400) := by decide +kernel

/-- R216. -/
theorem test_ret : after (exec .ret ((({ ready with sp := 0x23FE } : State).writeByte 0x23FE 0x03).writeByte 0x23FF 0x01)) (fun t => (t.pc, t.sp)) = some (0x0103, 0x2400) := by decide +kernel

/-- R217. -/
theorem test_rnz_taken : after (exec .rnz ((({ ready with sp := 0x23FE } : State).writeByte 0x23FE 0x03).writeByte 0x23FF 0x01)) (fun t => (t.pc, t.sp)) = some (0x0103, 0x2400) := by decide +kernel

/-- R217. -/
theorem test_rnz_not_taken : after (exec .rnz { ready with flags := Flags.unpack 0x40 }) (fun t => (t.pc, t.sp)) = some (0x0101, 0x2400) := by decide +kernel

/-- R218. -/
theorem test_rst : after (exec .rst1 { ready with pc := 0x0150 }) (fun t => (t.pc, t.sp, t.readByte 0x23FE, t.readByte 0x23FF)) = some (0x0008, 0x23FE, 0x51, 0x01) := by decide +kernel


/-! Stack, input and output, control: the examples of 44_stack_io_control.md and 45_undocumented.md. -/

/-- R230. -/
theorem test_push : after (exec .pushB { ready with b := 0x8F, c := 0x9D, sp := 0x3A2C }) (fun t => (t.sp, t.readByte 0x3A2B, t.readByte 0x3A2A)) = some (0x3A2A, 0x8F, 0x9D) := by decide +kernel

/-- R231. -/
theorem test_pushPsw : after (exec .pushPsw { ready with a := 0x1F, flags := Flags.unpack 0x47 }) (fun t => (t.readByte 0x23FF, t.readByte 0x23FE, t.sp)) = some (0x1F, 0x47, 0x23FE) := by decide +kernel

/-- R232. -/
theorem test_pop : after (exec .popH ((({ ready with sp := 0x1239 } : State).writeByte 0x1239 0x3D).writeByte 0x123A 0x93)) (fun t => (t.l, t.h, t.sp)) = some (0x3D, 0x93, 0x123B) := by decide +kernel

/-- R233. -/
theorem test_popPsw : after (exec .popPsw ((({ ready with sp := 0x2C00 } : State).writeByte 0x2C00 0xC3).writeByte 0x2C01 0xFF)) (fun t => (t.a, t.flags, t.sp)) = some (0xFF, ⟨true, true, false, false, true⟩, 0x2C02) := by decide +kernel

/-- R234. -/
theorem test_xthl : after (exec .xthl ((({ ready with sp := 0x10AD, h := 0x0B, l := 0x3C } : State).writeByte 0x10AD 0xF0).writeByte 0x10AE 0x0D)) (fun t => (t.hl, t.readByte 0x10AD, t.readByte 0x10AE, t.sp)) = some (0x0DF0, 0x3C, 0x0B, 0x10AD) := by decide +kernel

/-- R235. -/
theorem test_sphl : after (exec .sphl { ready with h := 0x50, l := 0x6C }) (fun t => t.sp) = some 0x506C := by decide +kernel

/-- R236: the byte is free, and one event is recorded. -/
theorem test_in : after (exec (.inPort 0x01) ready) (fun t => (t.pc, t.inDraws, t.events.length, t.ports)) = some (0x0102, 1, 1, []) := by decide +kernel

/-- R238. -/
theorem test_out : after (exec (.outPort 0x03) { ready with a := 0x3C }) (fun t => (t.ports.read 0x03, t.events)) = some (0x003C, [.output 0x03 0x3C]) := by decide +kernel

/-- R240: the example, but for the table cost of 4 that the step charges. -/
theorem test_ei_pending : after (exec .ei { ready with pend := 0x82 }) (fun t => ((t.pc, t.sp, t.readByte 0x23FE, t.readByte 0x23FF), t.ie, t.pend, t.budget)) = some ((0x0010, 0x23FE, 0x01, 0x01), false, 0x00, -11) := by decide +kernel

/-- R240 with nothing pending. -/
theorem test_ei : after (exec .ei ready) (fun t => (t.pc, t.ie)) = some (0x0101, true) := by decide +kernel

/-- R241. -/
theorem test_di : after (exec .di { ready with ie := true }) (fun t => (t.pc, t.ie)) = some (0x0101, false) := by decide +kernel

/-- R242. -/
theorem test_nop : after (exec .nop { ready with pc := 0 }) (fun t => t.pc) = some 0x0001 := by decide +kernel

/-- R248. -/
theorem test_hlt : after (exec .hlt { ready with pc := 0x0105 }) (fun t => (t.pc, t.halt)) = some (0x0106, true) := by decide +kernel

/-- R260. -/
theorem test_undocumented : after (exec .undocCB { ready with pc := 0x0200 }) (fun t => (t.pc, t.sp)) = some (0x0201, 0x2400) := by decide +kernel


/-! Steps and host operations. -/

/-- 70_reset_and_hazards.md R310: the first step after reset is NOP, at a cost of 4. -/
theorem test_step_from_reset : after (step State.reset) (fun t => (t.pc, t.lastop, t.budget)) = some (0x0001, 0x00, -4) := by decide +kernel

/-- R125: the bytes 0x21 0x34 0x12 placed where the next step fetches. -/
theorem test_withFetchWord : after (step (State.reset.withFetchWord 24 0x123421)) (fun t => (t.hl, t.pc, t.lastop)) = some (0x1234, 0x0003, 0x21) := by decide +kernel

/-- R240: an EI that delivers lowers the budget by 15. -/
theorem test_step_ei_budget : after (step ({ ready with pend := 0x82 }.withFetchWord 8 0xFB)) (fun t => (t.pc, t.budget)) = some (0x0010, -15) := by decide +kernel

/-- 60_exceptions.md R282, from the halted state. -/
theorem test_interrupt_entry : after (raiseInterrupt 2 { ready with ie := true, halt := true }) (fun t => (t.pc, t.sp, t.ie, t.halt, t.budget)) =
    some (0x0010, 0x23FE, false, false, -11) := by decide +kernel

/-- 60_exceptions.md R283. -/
theorem test_interrupt_deferred : after (raiseInterrupt 5 ready) (fun t => (t.pend, t.pc, t.sp)) = some (0x85, 0x0100, 0x2400) := by decide +kernel

/-- 92_eei_decisions.md D2, D3: the other readings, RESET_SP = 0 and BOOT_OPCODE = 0xC7. -/
theorem test_parameters_reach_reset : 
    (construct { defaultParams with resetSp := 0x0000, bootOpcode := 0xC7 }).sp = 0x0000 ∧
    (construct { defaultParams with resetSp := 0x0000, bootOpcode := 0xC7 }).readByte 0x0001 = 0xC7 := by decide +kernel

/-- 20_memory.md R76: the bytes from VRAM_BASE to VRAM_END, both included. -/
theorem test_video_view : 
    videoView (({ ready with params := { defaultParams with vramEnd := 0x2402 } } : State).writeByte 0x2402 0x5A) =
      [0x00, 0x00, 0x5A] := by decide +kernel

/-- 70_reset_and_hazards.md R320: where no step is charged the loop does not end, and the model refuses. -/
theorem test_endless_update : 
    answerOf (update 2 { ready with params := { defaultParams with cycleRows := [] } }) = none := by decide +kernel

/-- R310: with no program the boot loop takes 14 cycles. -/
theorem test_update_boot_loop : answerOf (update 14 (construct defaultParams)) = some (.consumed 14) := by decide +kernel

/-- R324: 7 * ceil(8 / 7). -/
theorem test_update_halted : answerOf (update 8 { ready with halt := true }) = some (.consumed 14) := by decide +kernel

/-- 20_memory.md R64, R66 and R71: the faults, with the values recorded. -/
theorem test_faults : 
    faultOf (exec .nop { ready with pc := 0xFFFF }) = some (.addressWrap 0xFFFF 0x10000) ∧
    faultOf (exec .popB { ready with sp := 0xFFFF }) = some (.addressWrap 0x0100 0x10000) ∧
    faultOf (exec .pushB { ready with sp := 0x0001 }) = some (.addressWrap 0x0100 (-1)) ∧
    faultOf (exec (.inPort 7) { ready with inHandler := false }) = some (.missingHandler 0x0100 7) := by decide +kernel

/-- 20_memory.md R64: under the other policy the address wraps. -/
theorem test_wrap_policy : after (exec .popB { ready with sp := 0xFFFF, params := { defaultParams with wrapPolicy := .wrap } }) (fun t => (t.b, t.c, t.sp)) = some (0x00, 0x00, 0x0001) := by decide +kernel


/-! Witnesses: for each statement with hypotheses, a state that meets them, at the boundary of each clause. `atPc` and `atSp`
are on either side of the last address a form can stand at. -/

theorem witness_DecodeOfEncodeIsTheInstruction : (Instr.jmp 0xFFFF).wellFormed = true := by decide +kernel

theorem witness_EveryOpcodeByteDecodesToItsOwnBytes : decode [0xC3#8, 0x34#8, 0x12#8, 0x00#8] = .ok (.jmp 0x1234, [0x00#8]) := rfl

theorem witness_MovRegisterToRegister : Fits (atPc 0xFFFE) 1 ∧ ¬ Fits (atPc 0xFFFF) 1 ∧ (.movBC : Instr).length = 1 := by decide +kernel

theorem witness_MovMemoryToRegister : Fits (atPc 0xFFFE) 1 ∧ ¬ Fits (atPc 0xFFFF) 1 ∧ (.movBM : Instr).length = 1 := by decide +kernel

theorem witness_MovRegisterToMemory : Fits (atPc 0xFFFE) 1 ∧ ¬ Fits (atPc 0xFFFF) 1 ∧ (.movMB : Instr).length = 1 := by decide +kernel

theorem witness_MviWritesTheImmediate : Fits (atPc 0xFFFD) 2 ∧ ¬ Fits (atPc 0xFFFE) 2 ∧ (.mviB 0 : Instr).length = 2 ∧ (.mviM 0 : Instr).length = 2 := by decide +kernel

theorem witness_LxiLoadsThePair : Fits (atPc 0xFFFC) 3 ∧ ¬ Fits (atPc 0xFFFD) 3 ∧ (.lxiSp 0 : Instr).length = 3 := by decide +kernel

theorem witness_LdaAndLdaxLoadTheAccumulator : Fits (atPc 0xFFFC) 3 ∧ ¬ Fits (atPc 0xFFFD) 3 ∧ Fits (atPc 0xFFFE) 1 ∧ ¬ Fits (atPc 0xFFFF) 1 ∧ (.lda 0 : Instr).length = 3 ∧ (.ldaxB : Instr).length = 1 := by decide +kernel

theorem witness_StaAndStaxStoreTheAccumulator : Fits (atPc 0xFFFC) 3 ∧ ¬ Fits (atPc 0xFFFD) 3 ∧ Fits (atPc 0xFFFE) 1 ∧ ¬ Fits (atPc 0xFFFF) 1 ∧ (.sta 0 : Instr).length = 3 ∧ (.staxB : Instr).length = 1 := by decide +kernel

theorem witness_LhldLoadsAWord : Fits (atPc 0xFFFC) 3 ∧ ¬ Fits (atPc 0xFFFD) 3 ∧ Fits ready 3 ∧ WordFits ready 0xFFFE ∧ ¬ WordFits ready 0xFFFF := by decide +kernel

theorem witness_ShldStoresAWord : Fits (atPc 0xFFFC) 3 ∧ ¬ Fits (atPc 0xFFFD) 3 ∧ Fits ready 3 ∧ WordFits ready 0xFFFE ∧ ¬ WordFits ready 0xFFFF := by decide +kernel

theorem witness_XchgSwapsAndSphlCopies : Fits (atPc 0xFFFE) 1 ∧ ¬ Fits (atPc 0xFFFF) 1 ∧ (.xchg : Instr).length = 1 ∧ (.sphl : Instr).length = 1 := by decide +kernel

theorem witness_AddAndAdcAdd : Fits (atPc 0xFFFE) 1 ∧ ¬ Fits (atPc 0xFFFF) 1 ∧ Fits (atPc 0xFFFD) 2 ∧ ¬ Fits (atPc 0xFFFE) 2 ∧ (Src.imm 0).length = 2 ∧ Src.m.length = 1 ∧ (Form.alu .adc (.imm 0)).length = 2 := by decide +kernel

theorem witness_SubAndSbbSubtract : Fits (atPc 0xFFFE) 1 ∧ ¬ Fits (atPc 0xFFFF) 1 ∧ Fits (atPc 0xFFFD) 2 ∧ ¬ Fits (atPc 0xFFFE) 2 ∧ (Form.alu .sub (.reg .a)).length = 1 ∧ (Form.alu .sbb (.imm 0)).length = 2 := by decide +kernel

theorem witness_InrIncrements : Fits (atPc 0xFFFE) 1 ∧ ¬ Fits (atPc 0xFFFF) 1 ∧ (.inrA : Instr).length = 1 ∧ (.inrM : Instr).length = 1 := by decide +kernel

theorem witness_DcrDecrements : Fits (atPc 0xFFFE) 1 ∧ ¬ Fits (atPc 0xFFFF) 1 ∧ (.dcrA : Instr).length = 1 ∧ (.dcrM : Instr).length = 1 := by decide +kernel

theorem witness_InxAndDcxCountPairs : Fits (atPc 0xFFFE) 1 ∧ ¬ Fits (atPc 0xFFFF) 1 ∧ Pair.bc ≠ Pair.sp ∧ (.inxSp : Instr).length = 1 ∧ (.dcxSp : Instr).length = 1 := by decide +kernel

theorem witness_DadAddsToHl : Fits (atPc 0xFFFE) 1 ∧ ¬ Fits (atPc 0xFFFF) 1 ∧ (.dadSp : Instr).length = 1 := by decide +kernel

theorem witness_DaaAdjustsDecimally : Fits (atPc 0xFFFE) 1 ∧ ¬ Fits (atPc 0xFFFF) 1 ∧ (.daa : Instr).length = 1 := by decide +kernel

theorem witness_AnaAnds : Fits (atPc 0xFFFE) 1 ∧ ¬ Fits (atPc 0xFFFF) 1 ∧ Fits (atPc 0xFFFD) 2 ∧ ¬ Fits (atPc 0xFFFE) 2 ∧ (Form.alu .ana .m).length = 1 ∧ (Form.alu .ana (.imm 0)).length = 2 := by decide +kernel

theorem witness_XraAndOraCombine : Fits (atPc 0xFFFE) 1 ∧ ¬ Fits (atPc 0xFFFF) 1 ∧ Fits (atPc 0xFFFD) 2 ∧ ¬ Fits (atPc 0xFFFE) 2 ∧ (Form.alu .xra .m).length = 1 ∧ (Form.alu .ora (.imm 0)).length = 2 := by decide +kernel

theorem witness_CmpCompares : Fits (atPc 0xFFFE) 1 ∧ ¬ Fits (atPc 0xFFFF) 1 ∧ Fits (atPc 0xFFFD) 2 ∧ ¬ Fits (atPc 0xFFFE) 2 ∧ (Form.alu .cmp .m).length = 1 ∧ (Form.alu .cmp (.imm 0)).length = 2 := by decide +kernel

theorem witness_RotatesMoveTheAccumulator : Fits (atPc 0xFFFE) 1 ∧ ¬ Fits (atPc 0xFFFF) 1 ∧ (.rlc : Instr).length = 1 ∧ (.rrc : Instr).length = 1 ∧ (.ral : Instr).length = 1 ∧ (.rar : Instr).length = 1 := by decide +kernel

theorem witness_CmaCmcStcComplementAndSet : Fits (atPc 0xFFFE) 1 ∧ ¬ Fits (atPc 0xFFFF) 1 ∧ (.cma : Instr).length = 1 ∧ (.cmc : Instr).length = 1 ∧ (.stc : Instr).length = 1 := by decide +kernel

theorem witness_JumpsTransfer : Fits (atPc 0xFFFC) 3 ∧ ¬ Fits (atPc 0xFFFD) 3 ∧ Fits (atPc 0xFFFE) 1 ∧ ¬ Fits (atPc 0xFFFF) 1 ∧ (.jm 0 : Instr).length = 3 ∧ (.pchl : Instr).length = 1 := by decide +kernel

theorem witness_CallsPushTheReturnAddress : Fits (atPc 0xFFFC) 3 ∧ ¬ Fits (atPc 0xFFFD) 3 ∧ Fits (atSp 0x0002) 3 ∧ PushFits (atSp 0x0002) ∧ Fits (atSp 0x0001) 3 ∧ ¬ PushFits (atSp 0x0001) ∧
    Cond.holds (atSp 0x0002).flags .nz = true ∧ Cond.holds (atSp 0x0002).flags .z = false := by decide +kernel

theorem witness_ReturnsPopThePc : Fits (atPc 0xFFFE) 1 ∧ ¬ Fits (atPc 0xFFFF) 1 ∧ Fits (atSp 0xFFFD) 1 ∧ PopFits (atSp 0xFFFD) ∧ Fits (atSp 0xFFFE) 1 ∧ ¬ PopFits (atSp 0xFFFE) ∧
    Cond.holds (atSp 0xFFFD).flags .nz = true ∧ Cond.holds (atSp 0xFFFD).flags .z = false := by decide +kernel

theorem witness_RstCallsItsVector : Fits (atPc 0xFFFE) 1 ∧ ¬ Fits (atPc 0xFFFF) 1 ∧ Fits (atSp 0x0002) 1 ∧ PushFits (atSp 0x0002) ∧ Fits (atSp 0x0001) 1 ∧ ¬ PushFits (atSp 0x0001) := by decide +kernel

theorem witness_PushStoresAPair : Fits (atPc 0xFFFE) 1 ∧ ¬ Fits (atPc 0xFFFF) 1 ∧ Fits (atSp 0x0002) 1 ∧ PushFits (atSp 0x0002) ∧ Fits (atSp 0x0001) 1 ∧ ¬ PushFits (atSp 0x0001) := by decide +kernel

theorem witness_PopLoadsAPair : Fits (atPc 0xFFFE) 1 ∧ ¬ Fits (atPc 0xFFFF) 1 ∧ Fits (atSp 0xFFFD) 1 ∧ PopFits (atSp 0xFFFD) ∧ Fits (atSp 0xFFFE) 1 ∧ ¬ PopFits (atSp 0xFFFE) := by decide +kernel

theorem witness_PopPswLoadsAccumulatorAndFlags : Fits (atPc 0xFFFE) 1 ∧ ¬ Fits (atPc 0xFFFF) 1 ∧ Fits (atSp 0xFFFD) 1 ∧ PopFits (atSp 0xFFFD) ∧ Fits (atSp 0xFFFE) 1 ∧ ¬ PopFits (atSp 0xFFFE) := by decide +kernel

theorem witness_XthlExchangesTheStackTop : Fits (atPc 0xFFFE) 1 ∧ ¬ Fits (atPc 0xFFFF) 1 ∧ Fits ready 1 ∧ WordFits (atSp 0xFFFE) 0xFFFE ∧ ¬ WordFits (atSp 0xFFFF) 0xFFFF := by decide +kernel

theorem witness_InReadsTheHandler : Fits (atPc 0xFFFD) 2 ∧ ¬ Fits (atPc 0xFFFE) 2 ∧ Fits ready 2 ∧ ready.inHandler = true ∧
    Fits { ready with inHandler := false } 2 := by decide +kernel

theorem witness_OutWritesTheMirror : Fits (atPc 0xFFFD) 2 ∧ ¬ Fits (atPc 0xFFFE) 2 ∧ Fits ready 2 ∧ ready.outHandler = true ∧
    Fits { ready with outHandler := false } 2 ∧ (0x04#8 : Byte) ≠ 0x03#8 := by decide +kernel

theorem witness_EiEnablesAndDelivers : Fits (atPc 0xFFFE) 1 ∧ ¬ Fits (atPc 0xFFFF) 1 ∧ ready.pend.getLsbD 7 = false ∧
    Fits { atSp 0x0002 with pend := 0x87 } 1 ∧ (0x87#8 : Byte).getLsbD 7 = true ∧
    PushFits { atSp 0x0002 with pend := 0x87 } ∧ ¬ PushFits { atSp 0x0001 with pend := 0x80 } := by decide +kernel

theorem witness_DiNopHltControlTheCore : Fits (atPc 0xFFFE) 1 ∧ ¬ Fits (atPc 0xFFFF) 1 ∧ (.di : Instr).length = 1 ∧ (.nop : Instr).length = 1 ∧ (.hlt : Instr).length = 1 := by decide +kernel

theorem witness_UndocumentedSlotsFallBack : Fits (atPc 0xFFFE) 1 ∧ ¬ Fits (atPc 0xFFFF) 1 ∧ (.undoc08, 0x08#8) ∈ Form.undocumented ∧ (.undocFD, 0xFD#8) ∈ Form.undocumented := by decide +kernel

theorem witness_StepRunsTheDecodedInstruction : (atPc 0xFFFF).faultRec = none ∧ (atPc 0xFFFF).halt = false ∧
    decode [(atPc 0xFFFF).readByte 0xFFFF, (atPc 0xFFFF).readByte 0x0000, (atPc 0xFFFF).readByte 0x0001] =
      .ok (.nop, [0x00#8, 0xC3#8]) ∧
    Addressable (atPc 0xFFFF).params.wrapPolicy (((atPc 0xFFFF).pc.toNat : Int) + (Instr.nop).length - 1) := ⟨rfl, rfl, rfl, by decide +kernel⟩

theorem witness_OperandPastTheTopFaults : ((atPc 0xFFFF).writeByte 0xFFFF 0x3E).faultRec = none ∧ ((atPc 0xFFFF).writeByte 0xFFFF 0x3E).halt = false ∧
    ¬ Addressable ((atPc 0xFFFF).writeByte 0xFFFF 0x3E).params.wrapPolicy
      ((((atPc 0xFFFF).writeByte 0xFFFF 0x3E).pc.toNat : Int) + lengthOf (((atPc 0xFFFF).writeByte 0xFFFF 0x3E).readByte 0xFFFF) - 1) := by decide +kernel

theorem witness_HaltedStepIdles : ({ ready with halt := true } : State).faultRec = none ∧ ({ ready with halt := true } : State).halt = true := by decide +kernel

theorem witness_RaiseInterruptEnters : 7 < 8 ∧ ({ atSp 0x0002 with ie := true } : State).ie = true ∧
    PushFits { atSp 0x0002 with ie := true } ∧ ¬ PushFits { atSp 0x0001 with ie := true } := by decide +kernel

theorem witness_RaiseInterruptDefersOrRefuses : 7 < 8 ∧ ready.ie = false ∧ 8 ≤ 8 := by decide +kernel

theorem witness_InterruptThenRetReturns : ∃ t, raiseInterrupt 7 { atSp 0x0002 with ie := true } = .next t := ⟨_, rfl⟩

theorem witness_PushThenPopRoundTrips : ∃ t, push16 0x0100 (atSp 0x0002) 0xFFFF = .ok t := exists_ok (by decide +kernel)

theorem witness_LoadImageCopiesOrFails : 65536 < (0xFFFF#16).toNat + [0x01#8, 0x02#8].length ∧ (0xFFFF#16).toNat + [0x01#8].length ≤ 65536 ∧
    (0xFFFF#16).toNat < (0xFFFF#16).toNat + [0x01#8].length ∧ (0xFFFE#16).toNat < (0xFFFF#16).toNat ∧
    (0x0000#16).toNat + [0x01#8].length ≤ (0x0001#16).toNat := by decide +kernel

theorem witness_UpdateStepsUntilTheBudgetIsSpent : (0 : Int) < 1 ∧ ∃ t, update 1 State.reset = .next (t, .consumed 4) := ⟨by decide, _, rfl⟩

theorem witness_UpdateConsumesWithinBounds : State.reset.params.wf = true ∧ (0 : Int) < 1 ∧ State.reset.faultRec = none := by decide +kernel

theorem witness_UpdateRejectsNonPositiveBudgets : (0 : Int) ≤ 0 := by decide +kernel

theorem witness_HaltedUpdateIdles : (0 : Int) < 1 ∧ ({ ready with halt := true } : State).faultRec = none ∧
    ({ ready with halt := true } : State).halt = true ∧ 0 < ({ ready with halt := true } : State).params.cycleCost 0x76 := by decide +kernel

theorem witness_FaultEndsTheUpdate : (0 : Int) < 1 ∧ (atPc 0xFFFF).faultRec = none ∧
    ∃ t, update 1 (atPc 0xFFFF) = .next (t, .faulted (.addressWrap 0xFFFF 0x10000)) := ⟨by decide, rfl, _, rfl⟩

theorem witness_UpdateOneRunsOneStep : State.reset.params.wf = true ∧ State.reset.faultRec = none ∧ ∃ t, step { State.reset with budget := 1 } = .next t := ⟨by decide +kernel, rfl, _, rfl⟩

theorem witness_OnlyNamedInstructionsWriteFlags : (∃ t, exec .nop ready = .next t) ∧ writesSzap (Instr.nop).opcode = false ∧ writesCy (Instr.inrB).opcode = false := ⟨exists_next (by decide +kernel), by decide +kernel, by decide +kernel⟩

theorem witness_OnlyNamedInstructionsWriteRegisters : (∃ t, exec .movBC ready = .next t) ∧ writesReg .c (Instr.movBC).opcode = false ∧ writesSp (Instr.movBC).opcode = false := ⟨exists_next (by decide +kernel), by decide +kernel, by decide +kernel⟩

theorem witness_OnlyNamedInstructionsWriteTheRest : (∃ t, exec .nop ready = .next t) ∧ Instr.nop ≠ .ei ∧ Instr.nop ≠ .di ∧ Instr.nop ≠ .hlt ∧
    (∀ port, Instr.nop ≠ .outPort port) ∧ writesMemory (Instr.nop).opcode = false := ⟨exists_next (by decide +kernel), nofun, nofun, nofun, nofun, by decide +kernel⟩

theorem witness_EveryStepKeepsTheInvariant : Safety.Inv State.reset ∧ ∃ t, step State.reset = .next t := ⟨by decide +kernel, _, rfl⟩

theorem witness_PendingImpliesDisabled : defaultParams.wf = true ∧ Reachable { construct defaultParams with pend := 0x87 } ∧
    ({ construct defaultParams with pend := 0x87 } : State).pend ≠ 0 := 
  ⟨by decide +kernel, .served (.raiseInterrupt 7) (construct defaultParams) _ .done (.constructed _ (by decide +kernel)) rfl,
    by decide +kernel⟩

end Sys2Proof.Tests
end

section
/-! PROOF SUPPORT. Every instruction belongs to one form of the specification's rules, so a claim about all 256
instructions is proved once per form, with the lemmas of Laws/Forms.lean. -/

namespace Sys2Proof.Machine

/-- The forms of the rules, as a view of the instructions: the forms of Machine/Forms.lean, then the instructions that
belong to none. -/
inductive InForm : Instr → Prop where
  | mov (dst src : Reg) : InForm (Form.mov dst src)
  | movFromM (dst : Reg) : InForm (Form.movFromM dst)
  | movToM (src : Reg) : InForm (Form.movToM src)
  | mvi (dst : Reg) (v : Byte) : InForm (Form.mvi dst v)
  | lxi (p : Pair) (v : Word) : InForm (Form.lxi p v)
  | ldax (p : IndirectPair) : InForm (Form.ldax p)
  | stax (p : IndirectPair) : InForm (Form.stax p)
  | inr (dst : Reg) : InForm (Form.inr dst)
  | dcr (dst : Reg) : InForm (Form.dcr dst)
  | inx (p : Pair) : InForm (Form.inx p)
  | dcx (p : Pair) : InForm (Form.dcx p)
  | dad (p : Pair) : InForm (Form.dad p)
  | alu (op : AluOp) (x : Src) : InForm (Form.alu op x)
  | jump (cond : Cond) (a16 : Word) : InForm (Form.jump cond a16)
  | callIf (cond : Cond) (a16 : Word) : InForm (Form.callIf cond a16)
  | returnIf (cond : Cond) : InForm (Form.returnIf cond)
  | rst (n : Fin 8) : InForm (Form.rst n)
  | push (p : StackPair) : InForm (Form.push p)
  | pop (p : StackPair) : InForm (Form.pop p)
  | undocumented {i : Instr} (op : Byte) (h : (i, op) ∈ Form.undocumented) : InForm i
  | shld (a16 : Word) : InForm (.shld a16)
  | lhld (a16 : Word) : InForm (.lhld a16)
  | sta (a16 : Word) : InForm (.sta a16)
  | mviM (d8 : Byte) : InForm (.mviM d8)
  | lda (a16 : Word) : InForm (.lda a16)
  | jmp (a16 : Word) : InForm (.jmp a16)
  | call (a16 : Word) : InForm (.call a16)
  | outPort (d8 : Byte) : InForm (.outPort d8)
  | inPort (d8 : Byte) : InForm (.inPort d8)
  | nop : InForm .nop
  | rlc : InForm .rlc
  | rrc : InForm .rrc
  | ral : InForm .ral
  | rar : InForm .rar
  | daa : InForm .daa
  | cma : InForm .cma
  | inrM : InForm .inrM
  | dcrM : InForm .dcrM
  | stc : InForm .stc
  | cmc : InForm .cmc
  | hlt : InForm .hlt
  | ret : InForm .ret
  | xthl : InForm .xthl
  | pchl : InForm .pchl
  | xchg : InForm .xchg
  | popPsw : InForm .popPsw
  | di : InForm .di
  | pushPsw : InForm .pushPsw
  | sphl : InForm .sphl
  | ei : InForm .ei

/-- The forms cover the 256 rows of the opcode table. -/
theorem inForm : (i : Instr) → InForm i
  | .movBB => .mov .b .b | .movBC => .mov .b .c | .movBD => .mov .b .d | .movBE => .mov .b .e | .movBH => .mov .b .h
  | .movBL => .mov .b .l | .movBA => .mov .b .a | .movCB => .mov .c .b | .movCC => .mov .c .c | .movCD => .mov .c .d
  | .movCE => .mov .c .e | .movCH => .mov .c .h | .movCL => .mov .c .l | .movCA => .mov .c .a | .movDB => .mov .d .b
  | .movDC => .mov .d .c | .movDD => .mov .d .d | .movDE => .mov .d .e | .movDH => .mov .d .h | .movDL => .mov .d .l
  | .movDA => .mov .d .a | .movEB => .mov .e .b | .movEC => .mov .e .c | .movED => .mov .e .d | .movEE => .mov .e .e
  | .movEH => .mov .e .h | .movEL => .mov .e .l | .movEA => .mov .e .a | .movHB => .mov .h .b | .movHC => .mov .h .c
  | .movHD => .mov .h .d | .movHE => .mov .h .e | .movHH => .mov .h .h | .movHL => .mov .h .l | .movHA => .mov .h .a
  | .movLB => .mov .l .b | .movLC => .mov .l .c | .movLD => .mov .l .d | .movLE => .mov .l .e | .movLH => .mov .l .h
  | .movLL => .mov .l .l | .movLA => .mov .l .a | .movAB => .mov .a .b | .movAC => .mov .a .c | .movAD => .mov .a .d
  | .movAE => .mov .a .e | .movAH => .mov .a .h | .movAL => .mov .a .l | .movAA => .mov .a .a
  | .movBM => .movFromM .b | .movCM => .movFromM .c | .movDM => .movFromM .d | .movEM => .movFromM .e
  | .movHM => .movFromM .h | .movLM => .movFromM .l | .movAM => .movFromM .a
  | .movMB => .movToM .b | .movMC => .movToM .c | .movMD => .movToM .d | .movME => .movToM .e | .movMH => .movToM .h
  | .movML => .movToM .l | .movMA => .movToM .a
  | .mviB v => .mvi .b v | .mviC v => .mvi .c v | .mviD v => .mvi .d v | .mviE v => .mvi .e v | .mviH v => .mvi .h v
  | .mviL v => .mvi .l v | .mviA v => .mvi .a v
  | .lxiB v => .lxi .bc v | .lxiD v => .lxi .de v | .lxiH v => .lxi .hl v | .lxiSp v => .lxi .sp v
  | .ldaxB => .ldax .bc | .ldaxD => .ldax .de
  | .staxB => .stax .bc | .staxD => .stax .de
  | .inrB => .inr .b | .inrC => .inr .c | .inrD => .inr .d | .inrE => .inr .e | .inrH => .inr .h | .inrL => .inr .l
  | .inrA => .inr .a
  | .dcrB => .dcr .b | .dcrC => .dcr .c | .dcrD => .dcr .d | .dcrE => .dcr .e | .dcrH => .dcr .h | .dcrL => .dcr .l
  | .dcrA => .dcr .a
  | .inxB => .inx .bc | .inxD => .inx .de | .inxH => .inx .hl | .inxSp => .inx .sp
  | .dcxB => .dcx .bc | .dcxD => .dcx .de | .dcxH => .dcx .hl | .dcxSp => .dcx .sp
  | .dadB => .dad .bc | .dadD => .dad .de | .dadH => .dad .hl | .dadSp => .dad .sp
  | .addB => .alu .add (.reg .b) | .addC => .alu .add (.reg .c) | .addD => .alu .add (.reg .d)
  | .addE => .alu .add (.reg .e) | .addH => .alu .add (.reg .h) | .addL => .alu .add (.reg .l)
  | .addA => .alu .add (.reg .a) | .addM => .alu .add .m | .adi v => .alu .add (.imm v) | .adcB => .alu .adc (.reg .b)
  | .adcC => .alu .adc (.reg .c) | .adcD => .alu .adc (.reg .d) | .adcE => .alu .adc (.reg .e)
  | .adcH => .alu .adc (.reg .h) | .adcL => .alu .adc (.reg .l) | .adcA => .alu .adc (.reg .a) | .adcM => .alu .adc .m
  | .aci v => .alu .adc (.imm v) | .subB => .alu .sub (.reg .b) | .subC => .alu .sub (.reg .c)
  | .subD => .alu .sub (.reg .d) | .subE => .alu .sub (.reg .e) | .subH => .alu .sub (.reg .h)
  | .subL => .alu .sub (.reg .l) | .subA => .alu .sub (.reg .a) | .subM => .alu .sub .m | .sui v => .alu .sub (.imm v)
  | .sbbB => .alu .sbb (.reg .b) | .sbbC => .alu .sbb (.reg .c) | .sbbD => .alu .sbb (.reg .d)
  | .sbbE => .alu .sbb (.reg .e) | .sbbH => .alu .sbb (.reg .h) | .sbbL => .alu .sbb (.reg .l)
  | .sbbA => .alu .sbb (.reg .a) | .sbbM => .alu .sbb .m | .sbi v => .alu .sbb (.imm v) | .anaB => .alu .ana (.reg .b)
  | .anaC => .alu .ana (.reg .c) | .anaD => .alu .ana (.reg .d) | .anaE => .alu .ana (.reg .e)
  | .anaH => .alu .ana (.reg .h) | .anaL => .alu .ana (.reg .l) | .anaA => .alu .ana (.reg .a) | .anaM => .alu .ana .m
  | .ani v => .alu .ana (.imm v) | .xraB => .alu .xra (.reg .b) | .xraC => .alu .xra (.reg .c)
  | .xraD => .alu .xra (.reg .d) | .xraE => .alu .xra (.reg .e) | .xraH => .alu .xra (.reg .h)
  | .xraL => .alu .xra (.reg .l) | .xraA => .alu .xra (.reg .a) | .xraM => .alu .xra .m | .xri v => .alu .xra (.imm v)
  | .oraB => .alu .ora (.reg .b) | .oraC => .alu .ora (.reg .c) | .oraD => .alu .ora (.reg .d)
  | .oraE => .alu .ora (.reg .e) | .oraH => .alu .ora (.reg .h) | .oraL => .alu .ora (.reg .l)
  | .oraA => .alu .ora (.reg .a) | .oraM => .alu .ora .m | .ori v => .alu .ora (.imm v) | .cmpB => .alu .cmp (.reg .b)
  | .cmpC => .alu .cmp (.reg .c) | .cmpD => .alu .cmp (.reg .d) | .cmpE => .alu .cmp (.reg .e)
  | .cmpH => .alu .cmp (.reg .h) | .cmpL => .alu .cmp (.reg .l) | .cmpA => .alu .cmp (.reg .a) | .cmpM => .alu .cmp .m
  | .cpi v => .alu .cmp (.imm v)
  | .jnz a16 => .jump .nz a16 | .jz a16 => .jump .z a16 | .jnc a16 => .jump .nc a16 | .jc a16 => .jump .c a16
  | .jpo a16 => .jump .po a16 | .jpe a16 => .jump .pe a16 | .jp a16 => .jump .p a16 | .jm a16 => .jump .m a16
  | .cnz a16 => .callIf .nz a16 | .cz a16 => .callIf .z a16 | .cnc a16 => .callIf .nc a16 | .cc a16 => .callIf .c a16
  | .cpo a16 => .callIf .po a16 | .cpe a16 => .callIf .pe a16 | .cp a16 => .callIf .p a16 | .cm a16 => .callIf .m a16
  | .rnz => .returnIf .nz | .rz => .returnIf .z | .rnc => .returnIf .nc | .rc => .returnIf .c | .rpo => .returnIf .po
  | .rpe => .returnIf .pe | .rp => .returnIf .p | .rm => .returnIf .m
  | .rst0 => .rst 0 | .rst1 => .rst 1 | .rst2 => .rst 2 | .rst3 => .rst 3 | .rst4 => .rst 4 | .rst5 => .rst 5
  | .rst6 => .rst 6 | .rst7 => .rst 7
  | .pushB => .push .bc | .pushD => .push .de | .pushH => .push .hl
  | .popB => .pop .bc | .popD => .pop .de | .popH => .pop .hl
  | .undoc08 => .undocumented 0x08 (by decide) | .undoc10 => .undocumented 0x10 (by decide)
  | .undoc18 => .undocumented 0x18 (by decide) | .undoc20 => .undocumented 0x20 (by decide)
  | .undoc28 => .undocumented 0x28 (by decide) | .undoc30 => .undocumented 0x30 (by decide)
  | .undoc38 => .undocumented 0x38 (by decide) | .undocCB => .undocumented 0xCB (by decide)
  | .undocD9 => .undocumented 0xD9 (by decide) | .undocDD => .undocumented 0xDD (by decide)
  | .undocED => .undocumented 0xED (by decide) | .undocFD => .undocumented 0xFD (by decide)
  | .shld a16 => .shld a16 | .lhld a16 => .lhld a16 | .sta a16 => .sta a16 | .mviM d8 => .mviM d8
  | .lda a16 => .lda a16 | .jmp a16 => .jmp a16 | .call a16 => .call a16 | .outPort d8 => .outPort d8
  | .inPort d8 => .inPort d8 | .nop => .nop | .rlc => .rlc | .rrc => .rrc | .ral => .ral | .rar => .rar | .daa => .daa
  | .cma => .cma | .inrM => .inrM | .dcrM => .dcrM | .stc => .stc | .cmc => .cmc | .hlt => .hlt | .ret => .ret
  | .xthl => .xthl | .pchl => .pchl | .xchg => .xchg | .popPsw => .popPsw | .di => .di | .pushPsw => .pushPsw
  | .sphl => .sphl | .ei => .ei

end Sys2Proof.Machine
end

section
/-! PROOF SUPPORT. What an instruction other than EI, DI and HLT can do to the state, said once: a sequence of the
primitive updates below, none of which writes IE or PEND. -/

namespace Sys2Proof.Machine

/-- `Updated s t`: primitive updates alone lead from `s` to `t`. -/
inductive Updated (s : State) : State → Prop where
  | none : Updated s s
  | setPc {t : State} {v : Word} : Updated s t → Updated s (t.setPc v)
  | setSp {t : State} {v : Word} : Updated s t → Updated s (t.setSp v)
  | setReg {t : State} {r : Reg} {v : Byte} : Updated s t → Updated s (t.setReg r v)
  | setFlags {t : State} {f : Flags} : Updated s t → Updated s (t.setFlags f)
  | writeByte {t : State} {a : Word} {v : Byte} : Updated s t → Updated s (t.writeByte a v)
  | emit {t : State} {ev : Event} : Updated s t → Updated s (t.emit ev)
  | draw {t : State} : Updated s t → Updated s { t with inDraws := t.inDraws + 1 }
  | mirror {t : State} {port v : Byte} : Updated s t →
      Updated s { t with ports := t.ports.write port (v.zeroExtend 16) }

theorem Updated.setCy {s t : State} {v : Bool} (h : Updated s t) : Updated s (t.setCy v) :=
  h.setFlags

theorem Updated.setPair {s t : State} {p : Pair} {v : Word} (h : Updated s t) : Updated s (t.setPair p v) := by
  unfold State.setPair
  cases p with
  | bc | de | hl => exact h.setReg.setReg
  | sp => exact h.setSp

theorem Updated.writeBoth {s t : State} {a v : Word} (h : Updated s t) : Updated s (t.writeBoth a v) :=
  h.writeByte.writeByte

/-- No primitive update writes PEND. -/
theorem Updated.pend_eq {s t : State} (h : Updated s t) : t.pend = s.pend := by
  induction h with
  | none => rfl
  | setReg _ ih => rw [State.setReg_pend, ih]
  | setPc _ ih | setSp _ ih | setFlags _ ih | writeByte _ ih | emit _ ih | draw _ ih | mirror _ ih => exact ih

/-- No primitive update writes IE. -/
theorem Updated.ie_eq {s t : State} (h : Updated s t) : t.ie = s.ie := by
  induction h with
  | none => rfl
  | setReg _ ih => rw [State.setReg_ie, ih]
  | setPc _ ih | setSp _ ih | setFlags _ ih | writeByte _ ih | emit _ ih | draw _ ih | mirror _ ih => exact ih

/-- `Yields s r`: where `r` does not fault, primitive updates lead from `s` to its state. -/
def Yields (s : State) (r : Except Fault State) : Prop := ∀ t, r = .ok t → Updated s t

theorem Yields.ok {s t : State} (h : Updated s t) : Yields s (.ok t) := by
  rintro _ ⟨⟩; exact h

theorem Yields.bind {α : Type} {s : State} {r : Except Fault α} {k : α → Except Fault State}
    (h : ∀ x, r = .ok x → Yields s (k x)) : Yields s (r >>= k) := fun t ht =>
  have ⟨x, hx, hk⟩ := except_bind_eq_ok.1 ht
  h x hx t hk

theorem Yields.ite {s : State} {c : Prop} [Decidable c] {r q : Except Fault State} (hr : Yields s r)
    (hq : Yields s q) : Yields s (if c then r else q) := by
  split
  · exact hr
  · exact hq

theorem updated_of_writeWord {pc0 a v : Word} {s t : State} (h : writeWord pc0 s a v = .ok t) : Updated s t := by
  obtain ⟨-, rfl⟩ := writeWord_eq_ok.1 h
  exact .writeBoth .none

theorem updated_of_push16 {pc0 v : Word} {s t : State} (h : push16 pc0 s v = .ok t) : Updated s t := by
  obtain ⟨-, rfl⟩ := push16_eq_ok.1 h
  exact .setSp (.writeBoth .none)

theorem updated_of_pop16 {pc0 v : Word} {s t : State} (h : pop16 pc0 s = .ok (v, t)) : Updated s t := by
  obtain ⟨-, ⟨⟩⟩ := pop16_eq_ok.1 h
  exact .setSp .none

theorem updated_of_portIn {pc0 : Word} {port v : Byte} {s t : State} (h : portIn pc0 s port = .ok (v, t)) :
    Updated s t := by
  unfold portIn at h
  split at h
  · cases h; exact .emit (.draw .none)
  · cases h

theorem updated_of_portOut {pc0 : Word} {port v : Byte} {s t : State} (h : portOut pc0 s port v = .ok t) :
    Updated s t := by
  unfold portOut at h
  split at h
  · cases h; exact .emit (.mirror .none)
  · cases h

theorem yields_callTo (target next : Word) (s : State) : Yields s (callTo target next s) :=
  .bind fun _ ht => .ok (updated_of_push16 ht).setPc

theorem yields_returnTo (s : State) : Yields s (returnTo s) :=
  .bind fun (_, _) ht => .ok (updated_of_pop16 ht).setPc

theorem updated_of_outcome {s u : State} {r : Except Fault State} (hr : Yields s r) (h : outcome r = .next u) :
    Updated s u := hr u (outcome_eq_next.1 h)

theorem updated_of_complete {s t u : State} {len : Nat} (ht : Updated s t) (h : complete len s t = .next u) :
    Updated s u := by
  obtain ⟨-, rfl⟩ := complete_eq_next.1 h
  exact ht.setPc

theorem updated_of_accumulate {s u : State} {len : Nat} {sum : Sum8} (h : accumulate len sum s = .next u) :
    Updated s u := updated_of_complete (.setFlags (.setReg .none)) h

theorem updated_of_logicA {s u : State} {len : Nat} {r : Byte} (h : logicA len r s = .next u) : Updated s u :=
  updated_of_complete (.setFlags (.setReg .none)) h

theorem updated_of_rotateA {s u : State} {result : Byte × Bool} (h : rotateA result s = .next u) : Updated s u :=
  updated_of_complete (.setCy (.setReg .none)) h

theorem updated_of_pushValue {s u : State} {v : Word} (h : pushValue v s = .next u) : Updated s u :=
  updated_of_outcome (.bind fun _ _ => .bind fun _ ht => .ok (updated_of_push16 ht).setPc) h

theorem updated_of_alu {op : AluOp} {x : Src} {s u : State} (h : exec (Form.alu op x) s = .next u) :
    Updated s u := by
  cases op with
  | add => exact updated_of_accumulate (exec_alu_add x s ▸ h)
  | adc => exact updated_of_accumulate (exec_alu_adc x s ▸ h)
  | sub => exact updated_of_accumulate (exec_alu_sub x s ▸ h)
  | sbb => exact updated_of_accumulate (exec_alu_sbb x s ▸ h)
  | ana => exact updated_of_complete (.setFlags (.setReg .none)) (exec_alu_ana x s ▸ h)
  | xra => exact updated_of_logicA (exec_alu_xra x s ▸ h)
  | ora => exact updated_of_logicA (exec_alu_ora x s ▸ h)
  | cmp => exact updated_of_complete (.setFlags .none) (exec_alu_cmp x s ▸ h)

/-- Every instruction but EI, DI and HLT acts by primitive updates. -/
theorem updated_of_exec {i : Instr} {s u : State} (hei : i ≠ .ei) (hdi : i ≠ .di) (hhlt : i ≠ .hlt)
    (h : exec i s = .next u) : Updated s u := by
  cases inForm i with
  | mov dst src => exact updated_of_complete (.setReg .none) (exec_mov dst src s ▸ h)
  | movFromM dst => exact updated_of_complete (.setReg .none) (exec_movFromM dst s ▸ h)
  | movToM src => exact updated_of_complete (.writeByte .none) (exec_movToM src s ▸ h)
  | mvi dst v => exact updated_of_complete (.setReg .none) (exec_mvi dst v s ▸ h)
  | lxi p v => exact updated_of_complete (.setPair .none) (exec_lxi p v s ▸ h)
  | ldax p => exact updated_of_complete (.setReg .none) (exec_ldax p s ▸ h)
  | stax p => exact updated_of_complete (.writeByte .none) (exec_stax p s ▸ h)
  | inr dst => exact updated_of_complete (.setFlags (.setReg .none)) (exec_inr dst s ▸ h)
  | dcr dst => exact updated_of_complete (.setFlags (.setReg .none)) (exec_dcr dst s ▸ h)
  | inx p => exact updated_of_complete (.setPair .none) (exec_inx p s ▸ h)
  | dcx p => exact updated_of_complete (.setPair .none) (exec_dcx p s ▸ h)
  | dad p => exact updated_of_complete (.setCy (.setPair .none)) (exec_dad p s ▸ h)
  | alu op x => exact updated_of_alu h
  | jump cond a16 =>
    exact updated_of_outcome (.bind fun _ _ => .ok (.setPc .none)) (exec_jump cond a16 s ▸ h)
  | callIf cond a16 =>
    exact updated_of_outcome (.bind fun _ _ => .ite (yields_callTo _ _ s) (.ok (.setPc .none)))
      (exec_callIf cond a16 s ▸ h)
  | returnIf cond =>
    exact updated_of_outcome (.bind fun _ _ => .ite (yields_returnTo s) (.ok (.setPc .none)))
      (exec_returnIf cond s ▸ h)
  | rst n => exact updated_of_outcome (.bind fun _ _ => yields_callTo _ _ s) (exec_rst n s ▸ h)
  | push p => exact updated_of_pushValue (exec_push p s ▸ h)
  | pop p =>
    exact updated_of_outcome (.bind fun _ _ => .bind fun (_, _) ht => .ok (updated_of_pop16 ht).setPair.setPc)
      (exec_pop p s ▸ h)
  | undocumented op hop => exact updated_of_complete (.emit .none) (exec_undocumented hop s ▸ h)
  | shld a16 =>
    exact updated_of_outcome (.bind fun _ _ => .bind fun _ ht => .ok (updated_of_writeWord ht).setPc)
      (exec_shld a16 s ▸ h)
  | lhld a16 =>
    exact updated_of_outcome (.bind fun _ _ => .bind fun _ _ => .ok (.setPc (.setPair .none)))
      (exec_lhld a16 s ▸ h)
  | sta a16 => exact updated_of_complete (.writeByte .none) (exec_sta a16 s ▸ h)
  | mviM d8 => exact updated_of_complete (.writeByte .none) (exec_mviM d8 s ▸ h)
  | lda a16 => exact updated_of_complete (.setReg .none) (exec_lda a16 s ▸ h)
  | jmp a16 => exact updated_of_outcome (.bind fun _ _ => .ok (.setPc .none)) (exec_jmp a16 s ▸ h)
  | call a16 => exact updated_of_outcome (.bind fun _ _ => yields_callTo _ _ s) (exec_call a16 s ▸ h)
  | outPort d8 =>
    exact updated_of_outcome (.bind fun _ _ => .bind fun _ ht => .ok (updated_of_portOut ht).setPc)
      (exec_outPort d8 s ▸ h)
  | inPort d8 =>
    exact updated_of_outcome (.bind fun _ _ => .bind fun (_, _) ht => .ok (updated_of_portIn ht).setReg.setPc)
      (exec_inPort d8 s ▸ h)
  | nop => exact updated_of_complete .none (exec_nop s ▸ h)
  | rlc => exact updated_of_rotateA (exec_rlc s ▸ h)
  | rrc => exact updated_of_rotateA (exec_rrc s ▸ h)
  | ral => exact updated_of_rotateA (exec_ral s ▸ h)
  | rar => exact updated_of_rotateA (exec_rar s ▸ h)
  | daa => exact updated_of_accumulate (exec_daa s ▸ h)
  | cma => exact updated_of_complete (.setReg .none) (exec_cma s ▸ h)
  | inrM => exact updated_of_complete (.setFlags (.writeByte .none)) (exec_inrM s ▸ h)
  | dcrM => exact updated_of_complete (.setFlags (.writeByte .none)) (exec_dcrM s ▸ h)
  | stc => exact updated_of_complete (.setCy .none) (exec_stc s ▸ h)
  | cmc => exact updated_of_complete (.setCy .none) (exec_cmc s ▸ h)
  | hlt => exact absurd rfl hhlt
  | ret => exact updated_of_outcome (.bind fun _ _ => yields_returnTo s) (exec_ret s ▸ h)
  | xthl =>
    exact updated_of_outcome (.bind fun _ _ => .bind fun _ _ => .bind fun _ ht =>
      .ok (updated_of_writeWord ht).setPair.setPc)
      (exec_xthl s ▸ h)
  | pchl => exact updated_of_outcome (.bind fun _ _ => .ok (.setPc .none)) (exec_pchl s ▸ h)
  | xchg => exact updated_of_complete (.setPair (.setPair .none)) (exec_xchg s ▸ h)
  | popPsw =>
    exact updated_of_outcome (.bind fun _ _ => .bind fun (_, _) ht => .ok (updated_of_pop16 ht).setReg.setFlags.setPc)
      (exec_popPsw s ▸ h)
  | di => exact absurd rfl hdi
  | pushPsw => exact updated_of_pushValue (exec_pushPsw s ▸ h)
  | sphl => exact updated_of_complete (.setSp .none) (exec_sphl s ▸ h)
  | ei => exact absurd rfl hei

end Sys2Proof.Machine
end

section
/-! PROOF SUPPORT. What a step and a host operation keep, for any property of the state: the inductions over the fuel of
`update` and over the reachable states, done once. -/

namespace Sys2Proof.Machine

open Sys2Proof.Safety

/-- The next states of EI (44_stack_io_control.md R240): interrupts enabled, or the pending request delivered. -/
theorem exec_ei_eq_next {s t : State} (h : exec .ei s = .next t) :
    (s.pend.getLsbD 7 = false ∧ ∃ next, t = { s with ie := true, pc := next }) ∨
    ∃ next id, t = State.entered { s with ie := true, pc := next, pend := 0 } id := by
  rw [exec_ei] at h
  obtain ⟨next, -, hk⟩ := except_bind_eq_ok.1 (outcome_eq_next.1 h)
  obtain hp | hp := Bool.eq_false_or_eq_true (s.pend.getLsbD 7)
  · obtain ⟨-, ht⟩ := enterInterrupt_eq_ok.1 ((if_pos hp).symm.trans hk)
    exact .inr ⟨next, _, ht⟩
  · cases (if_neg (ne_true_of_eq_false hp)).symm.trans hk
    exact .inl ⟨hp, next, rfl⟩

/-- The next states of `raiseInterrupt` (60_exceptions.md R281, R283): the request is taken, or deferred into PEND. -/
theorem raiseInterrupt_eq_next {id : Nat} {s t : State} (h : raiseInterrupt id s = .next t) :
    (∃ v, t = s.entered v) ∨ (s.ie = false ∧ t = { s with pend := 0x80 ||| BitVec.ofNat 8 id }) := by
  unfold raiseInterrupt at h
  split at h
  · split at h
    · obtain ⟨-, ht⟩ := enterInterrupt_eq_ok.1 (outcome_eq_next.1 h)
      exact .inl ⟨_, ht⟩
    · next hie => cases h; exact .inr ⟨by simpa using hie, rfl⟩
  · cases h

@[simp] theorem State.entered_pend (s : State) (id : Byte) : (s.entered id).pend = s.pend := by simp [State.entered]
@[simp] theorem State.entered_ie (s : State) (id : Byte) : (s.entered id).ie = false := rfl

/-- Loading an image changes memory alone (20_memory.md R75). -/
theorem loadImage_state (image : Option (List Byte)) (address : Word) (clear : Bool) (s : State) :
    ∃ m, (loadImage image address clear s).1 = { s with mem := m } := by
  unfold loadImage
  split
  · exact ⟨s.mem, rfl⟩
  · split
    · exact ⟨_, rfl⟩
    · exact ⟨s.mem, rfl⟩

/-- The loop of `update` keeps what every step and every stop on a fault keep. -/
theorem updateLoop_keeps {P : State → Prop} (hstep : ∀ s t, P s → step s = .next t → P t)
    (hstop : ∀ s f, P s → P (s.stopWith f)) {n : Int} {fuel : Nat} {s t : State} {answer : Answer} (hs : P s)
    (h : updateLoop n fuel s = .next (t, answer)) : P t := by
  induction fuel generalizing s with
  | zero => cases h
  | succ fuel ih =>
    rw [updateLoop] at h
    split at h
    · next u hu =>
      split at h
      · cases h; exact hstep s t hs hu
      · exact ih (hstep s u hs hu) h
    · next f _ => cases h; exact hstop s f hs
    · cases h

/-- `update` keeps what every step, every stop on a fault and a new budget keep. -/
theorem update_keeps {P : State → Prop} (hstep : ∀ s t, P s → step s = .next t → P t)
    (hstop : ∀ s f, P s → P (s.stopWith f)) (hbudget : ∀ (s : State) (n : Int), P s → P { s with budget := n })
    {n : Int} {s t : State} {answer : Answer} (hs : P s) (h : update n s = .next (t, answer)) : P t := by
  unfold update at h
  split at h
  · split at h
    · cases h; exact hs
    · exact updateLoop_keeps hstep hstop (hbudget s n hs) h
  · cases h; exact hs

/-- `raiseInterrupt` as an operation keeps what `raiseInterrupt` and a new fault record keep. -/
theorem serveInterrupt_keeps {P : State → Prop} {id : Nat} {s t : State} {answer : Answer}
    (hraise : ∀ u, raiseInterrupt id s = .next u → P u) (hrecord : ∀ r, P { s with faultRec := r })
    (h : serveInterrupt id s = .next (t, answer)) : P t := by
  unfold serveInterrupt at h
  split at h
  · next u hu => cases h; exact hraise _ hu
  · cases h; exact hrecord _
  · cases h

end Sys2Proof.Machine
end

section
/-! PROOFS. 10_state.md R39: a pending request means that interrupts are disabled. The statement alone is not kept by EI,
which delivers by bit 7 of PEND, so the invariant says of a pending request also that bit 7 is set (R37). -/

namespace Sys2Proof.Machine

open Sys2Proof.Safety

/-- A pending request is marked by bit 7 of PEND, and interrupts are disabled (10_state.md R37, R39). -/
def PendingDisabled (s : State) : Prop := s.pend ≠ 0 → s.pend.getLsbD 7 = true ∧ s.ie = false

theorem pendingDisabled_of_pend_zero {s : State} (h : s.pend = 0) : PendingDisabled s := fun hp => absurd h hp

/-- The invariant speaks of PEND and IE alone, and is kept where interrupts are disabled. -/
theorem PendingDisabled.of_eq {s t : State} (hs : PendingDisabled s) (hp : t.pend = s.pend)
    (hie : s.ie = false → t.ie = false) : PendingDisabled t := fun ht => by
  rw [hp] at ht ⊢
  exact ⟨(hs ht).1, hie (hs ht).2⟩

theorem PendingDisabled.pend_eq_zero {s : State} (hs : PendingDisabled s) (h : s.pend.getLsbD 7 = false) :
    s.pend = 0 := by
  by_contra hp
  cases (hs hp).1.symm.trans h

/-- EI keeps the invariant: it delivers the pending request, or there is none. -/
theorem pendingDisabled_exec_ei {s t : State} (hs : PendingDisabled s) (h : exec .ei s = .next t) :
    PendingDisabled t := by
  obtain ⟨hp, next, rfl⟩ | ⟨next, id, rfl⟩ := exec_ei_eq_next h
  · exact pendingDisabled_of_pend_zero (hs.pend_eq_zero hp)
  · exact pendingDisabled_of_pend_zero (State.entered_pend _ id)

theorem pendingDisabled_exec {i : Instr} {s t : State} (hs : PendingDisabled s) (h : exec i s = .next t) :
    PendingDisabled t := by
  by_cases hei : i = .ei
  · subst hei; exact pendingDisabled_exec_ei hs h
  by_cases hdi : i = .di
  · subst hdi
    obtain ⟨-, rfl⟩ := complete_eq_next.1 (exec_di s ▸ h)
    exact hs.of_eq rfl fun _ => rfl
  by_cases hhlt : i = .hlt
  · subst hhlt
    obtain ⟨-, rfl⟩ := complete_eq_next.1 (exec_hlt s ▸ h)
    exact hs
  have hu := updated_of_exec hei hdi hhlt h
  exact hs.of_eq hu.pend_eq fun hie => hu.ie_eq.trans hie

theorem pendingDisabled_step {s t : State} (hs : PendingDisabled s) (h : step s = .next t) : PendingDisabled t := by
  obtain ⟨-, ⟨-, rfl⟩ | ⟨-, i, u, -, hu, rfl⟩⟩ := step_eq_next.1 h
  · exact hs
  · have hkept : PendingDisabled u := pendingDisabled_exec (s := { s with lastop := s.opcodeByte }) hs hu
    exact hkept

theorem bit7_deferred (id : Byte) : (0x80 ||| id).getLsbD 7 = true := by
  rw [BitVec.getLsbD_or]; rfl

theorem pendingDisabled_raiseInterrupt {id : Nat} {s t : State} (hs : PendingDisabled s)
    (h : raiseInterrupt id s = .next t) : PendingDisabled t := by
  obtain ⟨v, rfl⟩ | ⟨hie, rfl⟩ := raiseInterrupt_eq_next h
  · exact hs.of_eq (State.entered_pend s v) fun _ => State.entered_ie s v
  · exact fun _ => ⟨bit7_deferred _, hie⟩

theorem pendingDisabled_serve {request : Request} {s t : State} {answer : Answer} (hs : PendingDisabled s)
    (h : serve false request s = .next (t, answer)) : PendingDisabled t := by
  cases request with
  | reset => cases h; exact pendingDisabled_of_pend_zero rfl
  | update n =>
    exact update_keeps (fun _ _ => pendingDisabled_step) (fun _ _ => id) (fun _ _ => id) hs h
  | raiseInterrupt id =>
    exact serveInterrupt_keeps (fun _ => pendingDisabled_raiseInterrupt hs) (fun _ => hs) h
  | loadImage image address clear =>
    cases h
    obtain ⟨m, hm⟩ := loadImage_state image address clear s
    rw [hm]; exact hs
  | setInputHandler | setOutputHandler | readPort | videoView | diagnostic => cases h; exact hs

/-- The invariant of every reachable state, by induction on how the host and the core reached it. -/
theorem pendingDisabled_of_reachable {s : State} (h : Reachable s) : PendingDisabled s := by
  induction h with
  | constructed p => exact pendingDisabled_of_pend_zero rfl
  | stepped s t _ ht ih => exact pendingDisabled_step ih ht
  | served request s t answer _ ht ih => exact pendingDisabled_serve ih ht

/-- Settles O60, by the invariant `PendingDisabled` of every reachable state. -/
theorem pendingImpliesDisabled : Obligations.PendingImpliesDisabled := fun _ hs hp =>
  (pendingDisabled_of_reachable hs hp).2

end Sys2Proof.Machine
end

section
/-! PROOFS. 10_state.md R22, R23, R32 and R33: the views of the register pairs and of the flags. -/

namespace Sys2Proof.Machine

/-- A pair is its high register, then its low register (10_state.md R22). -/
theorem State.pair_eq_halves (s : State) (p : StackPair) :
    s.pair p.pair = s.reg p.halves.1 ++ s.reg p.halves.2 := by cases p <;> rfl

/-- The high register of a pair after a write of the pair. -/
theorem State.reg_high_setPair (s : State) (p : StackPair) (v : Word) :
    (s.setPair p.pair v).reg p.halves.1 = v.extractLsb' 8 8 := by cases p <;> rfl

/-- The low register of a pair after a write of the pair. -/
theorem State.reg_low_setPair (s : State) (p : StackPair) (v : Word) :
    (s.setPair p.pair v).reg p.halves.2 = v.extractLsb' 0 8 := by cases p <;> rfl

theorem StackPair.high_ne_low (p : StackPair) : p.halves.1 ≠ p.halves.2 := by cases p <;> decide

/-- A write of the high register, read through the pair. -/
theorem State.pair_setReg_high (s : State) (p : StackPair) (v : Byte) :
    (s.setReg p.halves.1 v).pair p.pair = v ++ s.reg p.halves.2 := by
  rw [State.pair_eq_halves, State.reg_setReg_same, State.reg_setReg_of_ne _ _ p.high_ne_low.symm]

/-- A write of the low register, read through the pair. -/
theorem State.pair_setReg_low (s : State) (p : StackPair) (v : Byte) :
    (s.setReg p.halves.2 v).pair p.pair = s.reg p.halves.1 ++ v := by
  rw [State.pair_eq_halves, State.reg_setReg_same, State.reg_setReg_of_ne _ _ p.high_ne_low]

/-- The packed byte as a sum of its bits (10_state.md R32). -/
theorem Flags.toNat_pack (f : Flags) : f.pack.toNat =
    128 * f.s.toNat + 64 * f.z.toNat + 16 * f.ac.toNat + 4 * f.p.toNat + 2 + f.cy.toNat := by
  obtain ⟨s, z, ac, p, cy⟩ := f
  revert s z ac p cy; decide

/-- The packed byte holds all five flags (10_state.md R33). -/
@[simp] theorem Flags.unpack_pack (f : Flags) : Flags.unpack f.pack = f := by
  obtain ⟨s, z, ac, p, cy⟩ := f
  revert s z ac p cy; decide

/-- Packing what was unpacked keeps the five flag bits and sets the constant bits (10_state.md R33). -/
theorem Flags.pack_unpack (v : Byte) : (Flags.unpack v).pack = (v &&& 0b11010111#8) ||| 0b00000010#8 := by
  revert v; decide +kernel

/-- Settles O46, view by view. -/
theorem registerAndFlagViewsAgree : Obligations.RegisterAndFlagViewsAgree :=
  ⟨State.pair_eq_halves, State.pair_setPair,
    fun s p v => ⟨State.reg_high_setPair s p v, State.reg_low_setPair s p v⟩,
    fun s p v => ⟨State.pair_setReg_high s p v, State.pair_setReg_low s p v⟩,
    Flags.toNat_pack, Flags.unpack_pack, Flags.pack_unpack⟩

end Sys2Proof.Machine
end

section
/-! PROOFS. 20_memory.md R67: a pop undoes a push. -/

namespace Sys2Proof.Machine

open Sys2Proof.Safety

/-- Where a push can be made, a pop can be made on the SP it leaves. -/
theorem popFits_of_pushFits {s t : State} (h : PushFits s) (hp : t.params = s.params) (hsp : t.sp = s.sp - 2) :
    PopFits t := by
  rw [PopFits, hp, hsp]
  obtain hwrap | hrange := h
  · exact .inl hwrap
  · have hlt := s.sp.isLt
    have hsub : (s.sp - 2).toNat = s.sp.toNat - 2 := BitVec.toNat_sub_of_le (BitVec.le_def.2 (by simp; omega))
    exact .inr (by omega)

/-- Settles O45: the push leaves the word below SP, where the pop reads its two bytes. -/
theorem pushThenPopRoundTrips : Obligations.PushThenPopRoundTrips := by
  intro pc0 v s t h
  obtain ⟨hfits, ht⟩ := push16_eq_ok.1 h
  have hpop : PopFits t := popFits_of_pushFits hfits (by simp [ht]) (by simp [ht])
  have hvalue : wordOf (t.readByte (t.sp + 1)) (t.readByte t.sp) = v := by
    rw [ht, State.setSp_sp, State.readByte_pushed_low, succ_sp_sub_two, State.readByte_pushed_high,
      wordOf_hiByte_loByte]
  have hsp : t.sp + 2 = s.sp := by rw [ht, State.setSp_sp, BitVec.sub_add_cancel]
  exact ⟨t.setSp (t.sp + 2), by rw [pop16_of_fits hpop, hvalue], hsp⟩

end Sys2Proof.Machine
end

section
/-! PROOFS. 20_memory.md R75: what `loadImage` answers, and the memory it leaves. -/

namespace Sys2Proof.Machine

/-- An image that fits is loaded. -/
theorem loadImage_of_fits {bytes : List Byte} {address : Word} (h : address.toNat + bytes.length ≤ 65536) (clear : Bool)
    (s : State) :
    loadImage (some bytes) address clear s = ({ s with mem := loadedMemory bytes address clear s }, true) :=
  if_pos (decide_eq_true h)

/-- An image that does not fit changes nothing. -/
theorem loadImage_of_not_fits {bytes : List Byte} {address : Word} (h : 65536 < address.toNat + bytes.length)
    (clear : Bool) (s : State) : loadImage (some bytes) address clear s = (s, false) :=
  if_neg fun hfits => absurd (of_decide_eq_true hfits) (by omega)

/-- A byte of the image, where it is loaded. -/
theorem read_loadedMemory_inside (bytes : List Byte) {address a : Word} (clear : Bool) (s : State)
    (hlow : address.toNat ≤ a.toNat) (hhigh : a.toNat < address.toNat + bytes.length) :
    (loadedMemory bytes address clear s).read s.params.bootOpcode a.toNat =
      bytes.getD (a.toNat - address.toNat) 0 := by
  rw [loadedMemory, Memory.read_load, if_pos ⟨hlow, hhigh⟩]

/-- A byte beside the image, cleared or as it was. -/
theorem read_loadedMemory_outside {bytes : List Byte} {address a : Word} (clear : Bool) (s : State)
    (h : a.toNat < address.toNat ∨ address.toNat + bytes.length ≤ a.toNat) :
    (loadedMemory bytes address clear s).read s.params.bootOpcode a.toNat = if clear then 0 else s.readByte a := by
  rw [loadedMemory, Memory.read_load, if_neg (by omega)]
  cases clear with
  | true => exact Memory.read_zeroed _ _
  | false => rfl

/-- Settles O48: what `loadImage` answers by whether the image fits, then what its memory reads. -/
theorem loadImageCopiesOrFails : Obligations.LoadImageCopiesOrFails := fun bytes _ clear s =>
  ⟨rfl, fun h => loadImage_of_not_fits h clear s, fun h => ⟨_, _, loadImage_of_fits h clear s, rfl,
    fun _ => read_loadedMemory_inside bytes clear s, fun _ => read_loadedMemory_outside clear s⟩⟩

end Sys2Proof.Machine
end

section
/-! PROOF SUPPORT. How a statement about an instruction follows from its bytes and from the shape of its meaning: the
length and the wrap fault from the bytes, the frame through each update, and the two common shapes, a meaning that writes
one register and a meaning that writes one byte of memory. -/

namespace Sys2Proof.Safety

open Sys2Proof.Machine

/-- The encoder gives as many bytes as the opcode byte says (30_encoding.md R91). -/
theorem length_eq_length_encode (i : Instr) : i.length = (encode i).length := by
  cases i <;> exact length_of_encode rfl rfl

theorem Coded.length_eq {i : Instr} {bytes : List Byte} {cost : Nat} (h : Coded i bytes cost) :
    i.length = bytes.length := by
  rw [length_eq_length_encode, h.1]

/-- The wrap fault of an instruction that ends by `complete`, its length read off its bytes. -/
theorem Coded.wrapFaults {i : Instr} {bytes : List Byte} {cost : Nat} {s t : State} (h : Coded i bytes cost)
    (he : exec i s = complete bytes.length s t) : WrapFaults i s := wrapFaults_of_complete h.length_eq he

theorem Frame.self {regs : List Reg} {addrs : List Word} {s : State} : Frame regs addrs s s :=
  ⟨keepsRegs_self, keepsMemory_self, ⟨rfl, rfl, rfl⟩, ⟨rfl, rfl, rfl, rfl⟩, rfl, rfl, rfl, rfl, rfl⟩

theorem Frame.setPc {regs : List Reg} {addrs : List Word} {s t : State} {v : Word} (h : Frame regs addrs s t) :
    Frame regs addrs s (t.setPc v) := by
  obtain ⟨hregs, hmem, hint, heng, hio⟩ := h
  exact ⟨keepsRegs_setPc.2 hregs, keepsMemory_setPc.2 hmem, hint, heng, hio⟩

theorem Frame.setSp {regs : List Reg} {addrs : List Word} {s t : State} {v : Word} (h : Frame regs addrs s t) :
    Frame regs addrs s (t.setSp v) := by
  obtain ⟨hregs, hmem, hint, heng, hio⟩ := h
  exact ⟨keepsRegs_setSp.2 hregs, keepsMemory_setSp.2 hmem, hint, heng, hio⟩

theorem Frame.setReg {regs : List Reg} {addrs : List Word} {s t : State} {dst : Reg} {v : Byte}
    (h : Frame regs addrs s t) (hdst : dst ∈ regs) : Frame regs addrs s (t.setReg dst v) := by
  obtain ⟨hregs, hmem, hint, heng, hio⟩ := h
  refine ⟨keepsRegs_setReg hdst hregs, keepsMemory_setReg.2 hmem, ?_⟩
  cases dst <;> exact ⟨hint, heng, hio⟩

theorem keepsMemory_writeByte {addrs : List Word} {s t : State} {k : Word} {v : Byte} (hk : k ∈ addrs)
    (h : KeepsMemory addrs s t) : KeepsMemory addrs s (t.writeByte k v) := fun a ha =>
  (State.readByte_writeByte_of_ne t v (by rintro rfl; exact ha hk)).trans (h a ha)

theorem Frame.writeByte {regs : List Reg} {addrs : List Word} {s t : State} {k : Word} {v : Byte}
    (h : Frame regs addrs s t) (hk : k ∈ addrs) : Frame regs addrs s (t.writeByte k v) := by
  obtain ⟨hregs, hmem, hint, heng, hio⟩ := h
  exact ⟨keepsRegs_writeByte.2 hregs, keepsMemory_writeByte hk hmem, hint, heng, hio⟩

theorem Frame.writeBoth {regs : List Reg} {addrs : List Word} {s t : State} {k v : Word}
    (h : Frame regs addrs s t) (hlow : k ∈ addrs) (hhigh : k + 1 ∈ addrs) : Frame regs addrs s (t.writeBoth k v) :=
  (h.writeByte hlow).writeByte hhigh

/-- A meaning that writes one register. -/
theorem next_of_setReg {i : Instr} {len : Nat} {s : State} {dst : Reg} {v : Byte}
    (he : exec i s = complete len s (s.setReg dst v)) (h : Fits s len) :
    ∃ t, exec i s = .next t ∧ t.pc = s.pc + BitVec.ofNat 16 len ∧ t.reg dst = v ∧ t.sp = s.sp ∧ t.flags = s.flags ∧
      Frame [dst] [] s t :=
  next_of_complete he h ⟨rfl, by simp, by simp, by simp, (Frame.self.setReg (.head _)).setPc⟩

/-- A meaning that writes one byte of memory. -/
theorem next_of_writeByte {i : Instr} {len : Nat} {s : State} {a : Word} {v : Byte}
    (he : exec i s = complete len s (s.writeByte a v)) (h : Fits s len) :
    ∃ t, exec i s = .next t ∧ t.pc = s.pc + BitVec.ofNat 16 len ∧ t.readByte a = v ∧ t.sp = s.sp ∧
      t.flags = s.flags ∧ Frame [] [a] s t :=
  next_of_complete he h ⟨rfl, by simp, rfl, rfl, (Frame.self.writeByte (.head _)).setPc⟩

end Sys2Proof.Safety
end

section
/-! PROOFS. 40_data_transfer.md R120 to R132 and 44_stack_io_control.md R235: for each form its bytes and cost, then the
statement from its meaning. -/

namespace Sys2Proof.Machine

open Sys2Proof.Safety

/-! The bytes and the cost of each form (30_encoding.md R93, R94; 70_reset_and_hazards.md R325). -/

theorem coded_mov (dst src : Reg) : Coded (Form.mov dst src) [0b01#2 ++ dst.code ++ src.code] 5 := by
  cases dst <;> cases src <;> exact coded_of_encode rfl rfl rfl

theorem coded_movFromM (dst : Reg) : Coded (Form.movFromM dst) [0b01#2 ++ dst.code ++ 0b110#3] 7 := by
  cases dst <;> exact coded_of_encode rfl rfl rfl

theorem coded_movToM (src : Reg) : Coded (Form.movToM src) [0b01110#5 ++ src.code] 7 := by
  cases src <;> exact coded_of_encode rfl rfl rfl

theorem coded_mvi (dst : Reg) (v : Byte) : Coded (Form.mvi dst v) [0b00#2 ++ dst.code ++ 0b110#3, v] 7 := by
  cases dst <;> exact coded_of_encode rfl rfl rfl

theorem coded_mviM (v : Byte) : Coded (.mviM v) [0b00110110#8, v] 10 := coded_of_encode rfl rfl rfl

theorem coded_lxi (p : Pair) (v : Word) :
    Coded (Form.lxi p v) [0b00#2 ++ p.code ++ 0b0001#4, v.extractLsb' 0 8, v.extractLsb' 8 8] 10 := by
  cases p <;> exact coded_of_encode rfl rfl rfl

theorem coded_lda (a16 : Word) : Coded (.lda a16) [0b00111010#8, a16.extractLsb' 0 8, a16.extractLsb' 8 8] 13 :=
  coded_of_encode rfl rfl rfl

theorem coded_ldax (p : IndirectPair) : Coded (Form.ldax p) [0b00#2 ++ p.pair.code ++ 0b1010#4] 7 := by
  cases p <;> exact coded_of_encode rfl rfl rfl

theorem coded_sta (a16 : Word) : Coded (.sta a16) [0b00110010#8, a16.extractLsb' 0 8, a16.extractLsb' 8 8] 13 :=
  coded_of_encode rfl rfl rfl

theorem coded_stax (p : IndirectPair) : Coded (Form.stax p) [0b00#2 ++ p.pair.code ++ 0b0010#4] 7 := by
  cases p <;> exact coded_of_encode rfl rfl rfl

theorem coded_lhld (a16 : Word) : Coded (.lhld a16) [0b00101010#8, a16.extractLsb' 0 8, a16.extractLsb' 8 8] 16 :=
  coded_of_encode rfl rfl rfl

theorem coded_shld (a16 : Word) : Coded (.shld a16) [0b00100010#8, a16.extractLsb' 0 8, a16.extractLsb' 8 8] 16 :=
  coded_of_encode rfl rfl rfl

theorem coded_xchg : Coded .xchg [0b11101011#8] 4 := coded_of_encode rfl rfl rfl

theorem coded_sphl : Coded .sphl [0b11111001#8] 5 := coded_of_encode rfl rfl rfl

/-! The statements. -/

/-- Settles O4: MOV d,s writes one register. -/
theorem movRegisterToRegister : Obligations.MovRegisterToRegister := fun dst src s =>
  ⟨coded_mov dst src, (coded_mov dst src).wrapFaults (exec_mov dst src s), next_of_setReg (exec_mov dst src s)⟩

/-- Settles O5: MOV d,M writes one register, with the byte at the HL of the state before. -/
theorem movMemoryToRegister : Obligations.MovMemoryToRegister := fun dst s =>
  ⟨coded_movFromM dst, (coded_movFromM dst).wrapFaults (exec_movFromM dst s), next_of_setReg (exec_movFromM dst s)⟩

/-- Settles O6: MOV M,s writes the byte at HL. -/
theorem movRegisterToMemory : Obligations.MovRegisterToMemory := fun src s =>
  ⟨coded_movToM src, (coded_movToM src).wrapFaults (exec_movToM src s), next_of_writeByte (exec_movToM src s)⟩

/-- Settles O7: MVI d writes one register, MVI M the byte at HL. -/
theorem mviWritesTheImmediate : Obligations.MviWritesTheImmediate := fun v s =>
  ⟨fun dst => ⟨coded_mvi dst v, (coded_mvi dst v).wrapFaults (exec_mvi dst v s), next_of_setReg (exec_mvi dst v s)⟩,
    coded_mviM v, (coded_mviM v).wrapFaults (exec_mviM v s), next_of_writeByte (exec_mviM v s)⟩

/-- Settles O8: LXI writes the two registers of a pair, or SP. -/
theorem lxiLoadsThePair : Obligations.LxiLoadsThePair := by
  intro p v s
  refine ⟨coded_lxi p v, (coded_lxi p v).wrapFaults (exec_lxi p v s), fun h => ?_⟩
  refine next_of_complete (exec_lxi p v s) h ⟨rfl, by simp, ?_⟩
  cases p with
  | bc | de | hl =>
    exact ⟨rfl, rfl, rfl, ((Frame.self.setReg (.head _)).setReg (.tail _ (.head _))).setPc⟩
  | sp => exact ⟨rfl, Frame.self.setSp.setPc⟩

/-- Settles O9: LDA and LDAX write the register A. -/
theorem ldaAndLdaxLoadTheAccumulator : Obligations.LdaAndLdaxLoadTheAccumulator := fun s =>
  ⟨fun a16 => ⟨coded_lda a16, (coded_lda a16).wrapFaults (exec_lda a16 s), next_of_setReg (exec_lda a16 s)⟩,
    fun p => ⟨coded_ldax p, (coded_ldax p).wrapFaults (exec_ldax p s), next_of_setReg (exec_ldax p s)⟩⟩

/-- Settles O10: STA and STAX write the byte at their address. -/
theorem staAndStaxStoreTheAccumulator : Obligations.StaAndStaxStoreTheAccumulator := fun s =>
  ⟨fun a16 => ⟨coded_sta a16, (coded_sta a16).wrapFaults (exec_sta a16 s), next_of_writeByte (exec_sta a16 s)⟩,
    fun p => ⟨coded_stax p, (coded_stax p).wrapFaults (exec_stax p s), next_of_writeByte (exec_stax p s)⟩⟩

/-- LHLD where both of its addresses can be formed. -/
theorem exec_lhld_of_fits {a16 : Word} {s : State} (h : Fits s 3) (hw : WordFits s a16) :
    exec (.lhld a16) s =
      .next ((s.setPair .hl (wordOf (s.readByte (a16 + 1)) (s.readByte a16))).setPc (s.pc + 3)) := by
  simp [exec_lhld, execLhld, nextPc_of_fits h, readWord_of_fits hw]

theorem exec_lhld_of_not_wordFits {a16 : Word} {s : State} (h : Fits s 3) (hw : ¬ WordFits s a16) :
    exec (.lhld a16) s = .fault (.addressWrap s.pc 0x10000) := by
  simp [exec_lhld, execLhld, nextPc_of_fits h, readWord_of_not_fits hw, succ_of_not_wordFits hw]

/-- SHLD where both of its addresses can be formed. -/
theorem exec_shld_of_fits {a16 : Word} {s : State} (h : Fits s 3) (hw : WordFits s a16) :
    exec (.shld a16) s = .next ((s.writeBoth a16 s.hl).setPc (s.pc + 3)) := by
  simp [exec_shld, execShld, nextPc_of_fits h, writeWord_of_fits hw]

theorem exec_shld_of_not_wordFits {a16 : Word} {s : State} (h : Fits s 3) (hw : ¬ WordFits s a16) :
    exec (.shld a16) s = .fault (.addressWrap s.pc 0x10000) := by
  simp [exec_shld, execShld, nextPc_of_fits h, writeWord_of_not_fits hw, succ_of_not_wordFits hw]

/-- Settles O11: `next` is formed first, then the address of the upper byte. -/
theorem lhldLoadsAWord : Obligations.LhldLoadsAWord := by
  intro a16 s
  refine ⟨coded_lhld a16, wrapFaults_of_nextPc (coded_lhld a16).length_eq (exec_lhld a16 s), fun h hw => ?_,
    exec_lhld_of_not_wordFits⟩
  exact ⟨_, exec_lhld_of_fits h hw, rfl, loByte_wordOf _ _, hiByte_wordOf _ _, rfl, rfl,
    ((Frame.self.setReg (.head _)).setReg (.tail _ (.head _))).setPc⟩

/-- Settles O12: `next` is formed first, then the address of the upper byte; no byte is written before both. -/
theorem shldStoresAWord : Obligations.ShldStoresAWord := by
  intro a16 s
  refine ⟨coded_shld a16, wrapFaults_of_nextPc (coded_shld a16).length_eq (exec_shld a16 s), fun h hw => ?_,
    exec_shld_of_not_wordFits⟩
  have hlow : (s.writeBoth a16 s.hl).readByte a16 = s.l := by
    rw [State.readByte_writeBoth_low]; exact loByte_wordOf s.h s.l
  have hhigh : (s.writeBoth a16 s.hl).readByte (a16 + 1) = s.h := by
    rw [State.readByte_writeBoth_high]; exact hiByte_wordOf s.h s.l
  exact ⟨_, exec_shld_of_fits h hw, rfl, hlow, hhigh, rfl, rfl,
    (Frame.self.writeBoth (.head _) (.tail _ (.head _))).setPc⟩

/-- XCHG writes the four registers of HL and DE. -/
theorem frame_exchange (s : State) (v w : Word) :
    Frame [.d, .e, .h, .l] [] s ((s.setPair .hl v).setPair .de w) := by
  have hhl : Frame [.d, .e, .h, .l] [] s (s.setPair .hl v) :=
    (Frame.self.setReg (by decide)).setReg (by decide)
  exact (hhl.setReg (by decide)).setReg (by decide)

/-- Settles O13: XCHG writes each pair with the old value of the other, SPHL writes SP alone. -/
theorem xchgSwapsAndSphlCopies : Obligations.XchgSwapsAndSphlCopies := by
  intro s
  refine ⟨coded_xchg, coded_xchg.wrapFaults (exec_xchg s), coded_sphl, coded_sphl.wrapFaults (exec_sphl s),
    fun h => next_of_complete (exec_xchg s) h ?_, fun h => next_of_complete (exec_sphl s) h ?_⟩
  · exact ⟨rfl, hiByte_wordOf s.d s.e, loByte_wordOf s.d s.e, hiByte_wordOf s.h s.l, loByte_wordOf s.h s.l, rfl, rfl,
      (frame_exchange s _ _).setPc⟩
  · exact ⟨rfl, rfl, rfl, Frame.self.setSp.setPc⟩

end Sys2Proof.Machine
end

section
/-! PROOF SUPPORT. The frame through a flag write and through a pair write, the bytes and the cost of the 72 arithmetic
and logical forms, and more shapes of a meaning: one that writes a pair, one that writes a sum to A with all five flags,
and one that counts a register or a byte of memory and keeps CY. -/

namespace Sys2Proof.Machine

/-- The 8-bit registers of a pair (10_state.md R22). -/
def Pair.regs : Pair → List Reg
  | .bc => [.b, .c]
  | .de => [.d, .e]
  | .hl => [.h, .l]
  | .sp => []

theorem State.setPair_sp_of_ne (s : State) {p : Pair} (v : Word) (h : p ≠ .sp) : (s.setPair p v).sp = s.sp := by
  cases p with
  | bc | de | hl => rfl
  | sp => exact absurd rfl h

end Sys2Proof.Machine

namespace Sys2Proof.Safety

open Sys2Proof.Machine

theorem Frame.setFlags {regs : List Reg} {addrs : List Word} {s t : State} {f : Flags} (h : Frame regs addrs s t) :
    Frame regs addrs s (t.setFlags f) := by
  obtain ⟨hregs, hmem, hint, heng, hio⟩ := h
  exact ⟨keepsRegs_setFlags.2 hregs, keepsMemory_setFlags.2 hmem, hint, heng, hio⟩

theorem Frame.setCy {regs : List Reg} {addrs : List Word} {s t : State} {v : Bool} (h : Frame regs addrs s t) :
    Frame regs addrs s (t.setCy v) := h.setFlags

/-- Writing a pair writes its own registers alone. -/
theorem frame_setPair (s : State) (p : Pair) (v : Word) : Frame p.regs [] s (s.setPair p v) := by
  cases p with
  | bc | de | hl => exact (Frame.self.setReg (.head _)).setReg (.tail _ (.head _))
  | sp => exact Frame.self.setSp

/-- A meaning that writes one pair. -/
theorem next_of_setPair {i : Instr} {len : Nat} {s : State} {p : Pair} {v : Word}
    (he : exec i s = complete len s (s.setPair p v)) (h : Fits s len) :
    ∃ t, exec i s = .next t ∧ t.pc = s.pc + BitVec.ofNat 16 len ∧ t.pair p = v ∧ (p ≠ .sp → t.sp = s.sp) ∧
      t.flags = s.flags ∧ Frame p.regs [] s t :=
  next_of_complete he h ⟨rfl, by simp, State.setPair_sp_of_ne s v, by simp, (frame_setPair s p v).setPc⟩

/-- A meaning that writes a sum to A and all five flags. -/
theorem next_of_accumulate {i : Instr} {len : Nat} {s : State} {sum : Sum8} {r : Byte} {carry nibbleCarry : Prop}
    (he : exec i s = accumulate len sum s) (hr : sum.r = r) (hcy : sum.cy = true ↔ carry)
    (hac : sum.ac = true ↔ nibbleCarry) (h : Fits s len) :
    ∃ t, exec i s = .next t ∧ t.pc = s.pc + BitVec.ofNat 16 len ∧ t.a = r ∧ SzpFrom t.a t.flags ∧
      (t.flags.cy = true ↔ carry) ∧ (t.flags.ac = true ↔ nibbleCarry) ∧ t.sp = s.sp ∧ Frame [.a] [] s t :=
  next_of_complete he h
    ⟨rfl, hr, szpFrom_flagsOf _ _ _, hcy, hac, rfl, (Frame.self.setReg (.head _)).setFlags.setPc⟩

/-- A meaning that counts a register: the value and S, Z, AC and P are written, CY is kept. -/
theorem next_of_countReg {i : Instr} {len : Nat} {s : State} {dst : Reg} {v : Byte} {f : Flags} {nibble : Prop}
    (he : exec i s = complete len s ((s.setReg dst v).setFlags f)) (hszp : SzpFrom v f) (hac : f.ac = true ↔ nibble)
    (hcy : f.cy = s.flags.cy) (h : Fits s len) :
    ∃ t, exec i s = .next t ∧ t.pc = s.pc + BitVec.ofNat 16 len ∧ t.reg dst = v ∧ SzpFrom v t.flags ∧
      (t.flags.ac = true ↔ nibble) ∧ t.flags.cy = s.flags.cy ∧ t.sp = s.sp ∧ Frame [dst] [] s t :=
  next_of_complete he h ⟨rfl, by simp, hszp, hac, hcy, by simp, (Frame.self.setReg (.head _)).setFlags.setPc⟩

/-- A meaning that counts a byte of memory: the byte and S, Z, AC and P are written, CY is kept. -/
theorem next_of_countByte {i : Instr} {len : Nat} {s : State} {a : Word} {v : Byte} {f : Flags} {nibble : Prop}
    (he : exec i s = complete len s ((s.writeByte a v).setFlags f)) (hszp : SzpFrom v f)
    (hac : f.ac = true ↔ nibble) (hcy : f.cy = s.flags.cy) (h : Fits s len) :
    ∃ t, exec i s = .next t ∧ t.pc = s.pc + BitVec.ofNat 16 len ∧ t.readByte a = v ∧ SzpFrom v t.flags ∧
      (t.flags.ac = true ↔ nibble) ∧ t.flags.cy = s.flags.cy ∧ t.sp = s.sp ∧ Frame [] [a] s t :=
  next_of_complete he h ⟨rfl, by simp, hszp, hac, hcy, rfl, (Frame.self.writeByte (.head _)).setFlags.setPc⟩

theorem length_bytes (op : AluOp) (src : Src) : (src.bytes op).length = src.length := by
  cases src <;> rfl

/-- The bytes and the cost of an arithmetic or logical form (30_encoding.md R97; 70_reset_and_hazards.md R325). -/
theorem coded_alu (op : AluOp) (src : Src) : Coded (Form.alu op src) (src.bytes op) src.cost := by
  cases src with
  | reg r => cases op <;> cases r <;> exact coded_of_encode rfl rfl rfl
  | m | imm v => cases op <;> exact coded_of_encode rfl rfl rfl

/-- The wrap fault of an arithmetic or logical form. -/
theorem wrapFaults_alu {op : AluOp} {src : Src} {s t : State}
    (he : exec (Form.alu op src) s = complete src.length s t) : WrapFaults (Form.alu op src) s :=
  (coded_alu op src).wrapFaults (by rw [length_bytes]; exact he)

end Sys2Proof.Safety
end

section
/-! PROOFS. 41_arithmetic.md R140 to R162: the additions and subtractions, the counts of a register, of a byte of memory
and of a pair, and the decimal adjust. -/

namespace Sys2Proof.Machine

open Sys2Proof.Safety

/-! The bytes and the cost of each form (30_encoding.md R93, R94; 70_reset_and_hazards.md R325). -/

theorem coded_inr (dst : Reg) : Coded (Form.inr dst) [0b00#2 ++ dst.code ++ 0b100#3] 5 := by
  cases dst <;> exact coded_of_encode rfl rfl rfl

theorem coded_dcr (dst : Reg) : Coded (Form.dcr dst) [0b00#2 ++ dst.code ++ 0b101#3] 5 := by
  cases dst <;> exact coded_of_encode rfl rfl rfl

theorem coded_inrM : Coded .inrM [0b00110100#8] 10 := coded_of_encode rfl rfl rfl

theorem coded_dcrM : Coded .dcrM [0b00110101#8] 10 := coded_of_encode rfl rfl rfl

theorem coded_inx (p : Pair) : Coded (Form.inx p) [0b00#2 ++ p.code ++ 0b0011#4] 5 := by
  cases p <;> exact coded_of_encode rfl rfl rfl

theorem coded_dcx (p : Pair) : Coded (Form.dcx p) [0b00#2 ++ p.code ++ 0b1011#4] 5 := by
  cases p <;> exact coded_of_encode rfl rfl rfl

theorem coded_dad (p : Pair) : Coded (Form.dad p) [0b00#2 ++ p.code ++ 0b1001#4] 10 := by
  cases p <;> exact coded_of_encode rfl rfl rfl

theorem coded_daa : Coded .daa [0b00100111#8] 4 := coded_of_encode rfl rfl rfl

/-! Addition and subtraction. -/

/-- CY of `add8` is the carry out of bit 7 (41_arithmetic.md R140). -/
theorem add8_cy (a b : Byte) (cin : Bool) : (add8 a b cin).cy = true ↔ 256 ≤ a.toNat + b.toNat + cin.toNat :=
  decide_eq_true_iff

/-- AC of `add8` is the carry out of bit 3 (41_arithmetic.md R140). -/
theorem add8_ac (a b : Byte) (cin : Bool) :
    (add8 a b cin).ac = true ↔ 16 ≤ a.toNat % 16 + b.toNat % 16 + cin.toNat := decide_eq_true_iff

/-- ADD adds no carry, ADC adds CY. -/
theorem exec_alu_addOrAdc (withCarry : Bool) (src : Src) (s : State) :
    exec (Form.alu (if withCarry then .adc else .add) src) s =
      addA src.length (src.value s) (withCarry && s.flags.cy) s := by
  cases withCarry with
  | false => exact exec_alu_add src s
  | true => exact exec_alu_adc src s

/-- SUB subtracts no borrow, SBB subtracts CY. -/
theorem exec_alu_subOrSbb (withBorrow : Bool) (src : Src) (s : State) :
    exec (Form.alu (if withBorrow then .sbb else .sub) src) s =
      subA src.length (src.value s) (withBorrow && s.flags.cy) s := by
  cases withBorrow with
  | false => exact exec_alu_sub src s
  | true => exact exec_alu_sbb src s

/-- Settles O14: ADD and ADC accumulate `add8`. -/
theorem addAndAdcAdd : Obligations.AddAndAdcAdd := fun withCarry src s =>
  have he := exec_alu_addOrAdc withCarry src s
  ⟨coded_alu _ src, wrapFaults_alu he,
    next_of_accumulate he (add8_r _ _ _) (add8_cy _ _ _) (add8_ac _ _ _)⟩

/-- Settles O15: SUB and SBB accumulate `sub8`. -/
theorem subAndSbbSubtract : Obligations.SubAndSbbSubtract := fun withBorrow src s =>
  have he := exec_alu_subOrSbb withBorrow src s
  ⟨coded_alu _ src, wrapFaults_alu he,
    next_of_accumulate he (sub8_r _ _ _) (sub8_cy _ _ _) (sub8_ac _ _ _)⟩

/-! Counting a register, the byte at HL, or a pair. -/

/-- Settles O16: INR d writes one register, INR M the byte at HL, each with the flags of `Flags.increment`. -/
theorem inrIncrements : Obligations.InrIncrements := fun s =>
  ⟨fun dst => ⟨coded_inr dst, (coded_inr dst).wrapFaults (exec_inr dst s),
      next_of_countReg (exec_inr dst s) (szpFrom_increment _ _) decide_eq_true_iff rfl⟩,
    coded_inrM, coded_inrM.wrapFaults (exec_inrM s),
    next_of_countByte (exec_inrM s) (szpFrom_increment _ _) decide_eq_true_iff rfl⟩

/-- Settles O17: DCR d writes one register, DCR M the byte at HL, each with the flags of `Flags.decrement`. -/
theorem dcrDecrements : Obligations.DcrDecrements := fun s =>
  ⟨fun dst => ⟨coded_dcr dst, (coded_dcr dst).wrapFaults (exec_dcr dst s),
      next_of_countReg (exec_dcr dst s) (szpFrom_decrement _ _) decide_eq_true_iff rfl⟩,
    coded_dcrM, coded_dcrM.wrapFaults (exec_dcrM s),
    next_of_countByte (exec_dcrM s) (szpFrom_decrement _ _) decide_eq_true_iff rfl⟩

/-- Settles O18: INX and DCX write one pair. -/
theorem inxAndDcxCountPairs : Obligations.InxAndDcxCountPairs := fun p s =>
  ⟨coded_inx p, (coded_inx p).wrapFaults (exec_inx p s), coded_dcx p, (coded_dcx p).wrapFaults (exec_dcx p s),
    next_of_setPair (exec_inx p s), next_of_setPair (exec_dcx p s)⟩

/-- Settles O19: DAD writes HL, then CY alone. -/
theorem dadAddsToHl : Obligations.DadAddsToHl := fun p s =>
  ⟨coded_dad p, (coded_dad p).wrapFaults (exec_dad p s), fun h => next_of_complete (exec_dad p s) h
    ⟨rfl, State.pair_setPair s .hl _, decide_eq_true_iff, ⟨rfl, rfl, rfl, rfl⟩, rfl,
      (frame_setPair s .hl _).setCy.setPc⟩⟩

/-! Decimal adjust. -/

/-- The correction of the low digit (41_arithmetic.md R162). -/
def daaLow (a : Byte) (ac : Bool) : Nat := if ac = true ∨ 9 < a.toNat % 16 then 0x06 else 0

/-- The correction of the high digit (41_arithmetic.md R162), its condition on the digits as one comparison. -/
def daaHigh (a : Byte) (cy : Bool) : Nat := if cy = true ∨ 0x99 < a.toNat then 0x60 else 0

/-- The rule's condition on the two digits says that A is above 0x99. -/
theorem digits_above_99 (a : Byte) :
    (9 < a.toNat / 16 ∨ 9 ≤ a.toNat / 16 ∧ 9 < a.toNat % 16) ↔ 0x99 < a.toNat := by omega

/-- The decimal adjust is one addition of the two corrections, with CY set by the high one. -/
theorem daa8_eq (a : Byte) (ac cy : Bool) :
    daa8 a ac cy = { add8 a (BitVec.ofNat 8 (daaLow a ac + daaHigh a cy)) false with
      cy := decide (daaHigh a cy = 0x60) } := by
  have hlow : (ac || decide (9 < a.toNat % 16)) = decide (ac = true ∨ 9 < a.toNat % 16) := by simp
  have hhigh : (cy || decide (9 < a.toNat / 16) || (decide (9 ≤ a.toNat / 16) && decide (9 < a.toNat % 16))) =
      decide (cy = true ∨ 0x99 < a.toNat) := by
    simp [← digits_above_99, Bool.or_assoc]
  have hset : (cy || decide (cy = true ∨ 0x99 < a.toNat)) = decide (daaHigh a cy = 0x60) := by
    cases cy <;> simp [daaHigh]
  have hcorr : ((if ac = true ∨ 9 < a.toNat % 16 then 0x06 else 0) +
      (if cy = true ∨ 0x99 < a.toNat then 0x60 else 0)) = BitVec.ofNat 8 (daaLow a ac + daaHigh a cy) := by
    unfold daaLow daaHigh; split <;> split <;> rfl
  simp only [daa8, hlow, hhigh, hset, decide_eq_true_eq, hcorr]

/-- The high correction leaves the low digit alone. -/
theorem daa_correction_mod (a : Byte) (ac cy : Bool) :
    (BitVec.ofNat 8 (daaLow a ac + daaHigh a cy)).toNat % 16 = daaLow a ac := by
  unfold daaLow daaHigh
  split <;> split <;> rfl

theorem daa8_r (a : Byte) (ac cy : Bool) :
    (daa8 a ac cy).r = BitVec.ofNat 8 (a.toNat + daaLow a ac + daaHigh a cy) := by
  rw [daa8_eq, add8_r]
  apply BitVec.eq_of_toNat_eq
  simp [BitVec.toNat_add, Nat.add_assoc]

theorem daa8_ac (a : Byte) (ac cy : Bool) : (daa8 a ac cy).ac = true ↔ 16 ≤ a.toNat % 16 + daaLow a ac := by
  rw [daa8_eq]
  refine (add8_ac _ _ _).trans ?_
  rw [daa_correction_mod]; rfl

theorem daa8_cy (a : Byte) (ac cy : Bool) : (daa8 a ac cy).cy = true ↔ daaHigh a cy = 0x60 := by
  rw [daa8_eq, decide_eq_true_iff]

/-- Settles O20: DAA accumulates `daa8`. -/
theorem daaAdjustsDecimally : Obligations.DaaAdjustsDecimally := by
  intro s
  refine ⟨coded_daa, coded_daa.wrapFaults (exec_daa s), fun h => ?_⟩
  obtain ⟨t, ht, hpc, ha, hszp, hcy, hac, hrest⟩ :=
    next_of_accumulate (exec_daa s) (daa8_r _ _ _) (daa8_cy _ _ _) (daa8_ac _ _ _) h
  exact ⟨t, ht, hpc, ha, hszp, hac, hcy, hrest⟩

end Sys2Proof.Machine
end

section
/-! PROOFS. 42_logical.md R180 to R198: AND, exclusive OR, OR and compare, the rotates, and the three instructions that
complement or set. -/

namespace Sys2Proof.Machine

open Sys2Proof.Safety

/-! The bytes and the cost of each form (30_encoding.md R94; 70_reset_and_hazards.md R325). -/

theorem coded_rlc : Coded .rlc [0b00000111#8] 4 := coded_of_encode rfl rfl rfl

theorem coded_rrc : Coded .rrc [0b00001111#8] 4 := coded_of_encode rfl rfl rfl

theorem coded_ral : Coded .ral [0b00010111#8] 4 := coded_of_encode rfl rfl rfl

theorem coded_rar : Coded .rar [0b00011111#8] 4 := coded_of_encode rfl rfl rfl

theorem coded_cma : Coded .cma [0b00101111#8] 4 := coded_of_encode rfl rfl rfl

theorem coded_cmc : Coded .cmc [0b00111111#8] 4 := coded_of_encode rfl rfl rfl

theorem coded_stc : Coded .stc [0b00110111#8] 4 := coded_of_encode rfl rfl rfl

/-! AND, exclusive OR, OR and compare. -/

/-- XRA and ORA differ in the result alone. -/
theorem exec_alu_xraOrOra (exclusive : Bool) (src : Src) (s : State) :
    exec (Form.alu (if exclusive then .xra else .ora) src) s =
      logicA src.length (if exclusive then s.a ^^^ src.value s else s.a ||| src.value s) s := by
  cases exclusive with
  | false => exact exec_alu_ora src s
  | true => exact exec_alu_xra src s

/-- The difference with no borrow in. -/
theorem sub8_r_of_no_borrow (a b : Byte) : (sub8 a b false).r = a - b := by
  simp [sub8_r]

/-- Settles O21: ANA writes A and all five flags. -/
theorem anaAnds : Obligations.AnaAnds := fun src s =>
  have he := exec_alu_ana src s
  ⟨coded_alu _ src, wrapFaults_alu he, fun h => next_of_complete he h
    ⟨rfl, rfl, szpFrom_flagsOf _ _ _, rfl, BitVec.getLsbD_or, rfl, (Frame.self.setReg (.head _)).setFlags.setPc⟩⟩

/-- Settles O22: XRA and ORA write A and all five flags. -/
theorem xraAndOraCombine : Obligations.XraAndOraCombine := fun exclusive src s =>
  have he := exec_alu_xraOrOra exclusive src s
  ⟨coded_alu _ src, wrapFaults_alu he, fun h => next_of_complete he h
    ⟨rfl, rfl, szpFrom_flagsOf _ _ _, rfl, rfl, rfl, (Frame.self.setReg (.head _)).setFlags.setPc⟩⟩

/-- Z of a difference says that the operands are equal (R189). -/
theorem flagsOf_sub_z (a b : Byte) (ac cy : Bool) : (flagsOf (a - b) ac cy).z = true ↔ a = b :=
  decide_eq_true_iff.trans sub_eq_zero

/-- Settles O23: CMP writes the flags of `sub8` and keeps A. -/
theorem cmpCompares : Obligations.CmpCompares := by
  intro src s
  have he := exec_alu_cmp src s
  refine ⟨coded_alu _ src, wrapFaults_alu he, fun h => next_of_complete he h ?_⟩
  rw [sub8_r_of_no_borrow]
  exact ⟨rfl, szpFrom_flagsOf _ _ _, flagsOf_sub_z _ _ _ _, sub8_cy _ _ _, sub8_ac _ _ _, rfl,
    Frame.self.setFlags.setPc⟩

/-! The rotates, bit by bit. -/

/-- RLC rotates A left (R192): the bit moved round comes in below. -/
theorem rotLeft_fst (a : Byte) : (rotLeft a).1 = a.rotateLeft 1 := by
  ext k hk
  cases k with
  | zero => simp [rotLeft, BitVec.getElem_rotateLeft]
  | succ j => simp [rotLeft, BitVec.getElem_rotateLeft]

/-- RRC rotates A right (R193): the bit moved round comes in at the top. -/
theorem rotRight_fst (a : Byte) : (rotRight a).1 = a.rotateRight 1 := by
  ext k hk
  obtain hlow | rfl : k < 7 ∨ k = 7 := by omega
  · have hnext : 1 + k < 8 := by omega
    simp [rotRight, BitVec.getElem_rotateRight, hlow, BitVec.getLsbD_eq_getElem hnext]
  · simp [rotRight, BitVec.getElem_rotateRight]

/-- The bits of the 9-bit value that RAL and RAR rotate: A, then CY as bit 8. -/
theorem getLsbD_carry_append (cy : Bool) (a : Byte) (k : Nat) :
    (BitVec.ofBool cy ++ a).getLsbD k = if k < 8 then a.getLsbD k else decide (k = 8) && cy := by
  rw [BitVec.getLsbD_append]
  by_cases hlow : k < 8
  · simp [hlow]
  · have htop : k - 8 = 0 ↔ k = 8 := by omega
    simp [hlow, BitVec.getLsbD_ofBool, htop]

/-- RAL rotates the nine bits of CY and A left (R194). -/
theorem rotLeftCy_append (a : Byte) (cy : Bool) :
    BitVec.ofBool (rotLeftCy a cy).2 ++ (rotLeftCy a cy).1 = (BitVec.ofBool cy ++ a).rotateLeft 1 := by
  refine BitVec.eq_of_getLsbD_eq fun k hk => ?_
  rw [BitVec.getLsbD_rotateLeft]
  simp only [getLsbD_carry_append]
  cases k with
  | zero => simp [rotLeftCy]
  | succ j =>
    obtain hlow | rfl : j < 7 ∨ j = 7 := by omega
    · have hin : j < 8 := by omega
      have hnext : j + 1 < 8 := by omega
      simp [rotLeftCy, hk, hin, hnext]
    · simp [rotLeftCy]

/-- RAR rotates the nine bits of CY and A right (R195). -/
theorem rotRightCy_append (a : Byte) (cy : Bool) :
    BitVec.ofBool (rotRightCy a cy).2 ++ (rotRightCy a cy).1 = (BitVec.ofBool cy ++ a).rotateRight 1 := by
  refine BitVec.eq_of_getLsbD_eq fun k hk => ?_
  rw [BitVec.getLsbD_rotateRight]
  simp only [getLsbD_carry_append]
  obtain hlow | rfl | rfl : k < 7 ∨ k = 7 ∨ k = 8 := by omega
  · have hin : k < 8 := by omega
    have hnext : 1 + k < 8 := by omega
    simp [rotRightCy, hlow, hin, hnext]
  · simp [rotRightCy]
  · simp [rotRightCy]

/-- What a rotate leaves unchanged: it writes A, CY and PC. -/
theorem keeps_rotated (s : State) (r : Byte) (cy : Bool) (pc : Word) :
    KeepsSzap s (((s.setReg .a r).setCy cy).setPc pc) ∧ (((s.setReg .a r).setCy cy).setPc pc).sp = s.sp ∧
      Frame [.a] [] s (((s.setReg .a r).setCy cy).setPc pc) :=
  ⟨⟨rfl, rfl, rfl, rfl⟩, rfl, (Frame.self.setReg (.head _)).setCy.setPc⟩

/-- Settles O24: each rotate writes A and CY, RLC and RRC an 8-bit rotation, RAL and RAR a 9-bit one. -/
theorem rotatesMoveTheAccumulator : Obligations.RotatesMoveTheAccumulator := fun s =>
  ⟨coded_rlc, coded_rrc, coded_ral, coded_rar, coded_rlc.wrapFaults (exec_rlc s), coded_rrc.wrapFaults (exec_rrc s),
    coded_ral.wrapFaults (exec_ral s), coded_rar.wrapFaults (exec_rar s), fun h =>
    ⟨next_of_complete (exec_rlc s) h ⟨rfl, rotLeft_fst _, rfl, keeps_rotated s _ _ _⟩,
      next_of_complete (exec_rrc s) h ⟨rfl, rotRight_fst _, rfl, keeps_rotated s _ _ _⟩,
      next_of_complete (exec_ral s) h ⟨rfl, rotLeftCy_append _ _, keeps_rotated s _ _ _⟩,
      next_of_complete (exec_rar s) h ⟨rfl, rotRightCy_append _ _, keeps_rotated s _ _ _⟩⟩⟩

/-! Complement and set. -/

/-- A meaning that writes CY alone. -/
theorem next_of_setCy {i : Instr} {len : Nat} {s : State} {v : Bool} (he : exec i s = complete len s (s.setCy v))
    (h : Fits s len) :
    ∃ t, exec i s = .next t ∧ t.pc = s.pc + BitVec.ofNat 16 len ∧ t.flags.cy = v ∧ KeepsSzap s t ∧ t.sp = s.sp ∧
      Frame [] [] s t :=
  next_of_complete he h ⟨rfl, rfl, ⟨rfl, rfl, rfl, rfl⟩, rfl, Frame.self.setCy.setPc⟩

/-- Settles O25: CMA writes the register A, CMC and STC write CY. -/
theorem cmaCmcStcComplementAndSet : Obligations.CmaCmcStcComplementAndSet := fun s =>
  ⟨coded_cma, coded_cmc, coded_stc, coded_cma.wrapFaults (exec_cma s), coded_cmc.wrapFaults (exec_cmc s),
    coded_stc.wrapFaults (exec_stc s), fun h =>
    ⟨next_of_complete (exec_cma s) h
        ⟨rfl, fun _ hk => BitVec.getLsbD_not.trans (by rw [decide_eq_true hk, Bool.true_and]), rfl, rfl,
          (Frame.self.setReg (.head _)).setPc⟩,
      next_of_setCy (exec_cmc s) h, next_of_setCy (exec_stc s) h⟩⟩

end Sys2Proof.Machine
end

section
/-! PROOFS. 43_branch.md R210 to R213: the condition table, and the jumps, which write PC alone. -/

namespace Sys2Proof.Machine

open Sys2Proof.Safety

/-! The bytes and the cost of each form (30_encoding.md R95; 70_reset_and_hazards.md R325). -/

theorem coded_jmp (a16 : Word) : Coded (.jmp a16) [0b11000011#8, a16.extractLsb' 0 8, a16.extractLsb' 8 8] 10 :=
  coded_of_encode rfl rfl rfl

theorem coded_jump (cond : Cond) (a16 : Word) :
    Coded (Form.jump cond a16) [0b11#2 ++ cond.code ++ 0b010#3, a16.extractLsb' 0 8, a16.extractLsb' 8 8] 10 := by
  cases cond <;> exact coded_of_encode rfl rfl rfl

theorem coded_pchl : Coded .pchl [0b11101001#8] 5 := coded_of_encode rfl rfl rfl

/-- The flag that the two upper bits of a condition code select (R210). -/
def Flags.selected (f : Flags) (upper : BitVec 2) : Bool :=
  match upper with
  | 0b00#2 => f.z
  | 0b01#2 => f.cy
  | 0b10#2 => f.p
  | _ => f.s

/-- A condition holds when the flag its code selects equals the lowest bit of the code (R210). -/
theorem Cond.holds_eq_selected (f : Flags) (cond : Cond) :
    cond.holds f = (cond.code.getLsbD 0 == f.selected (cond.code.extractLsb' 1 2)) := by
  cases cond with
  | nz | nc | po | p => exact (Bool.false_beq _).symm
  | z | c | pe | m => exact (Bool.true_beq _).symm

/-- A meaning that forms `next`, then writes PC alone. -/
theorem next_of_setPc {i : Instr} {len : Nat} {s : State} {target : Word → Word}
    (he : exec i s = outcome (nextPc len s >>= fun next => .ok (s.setPc (target next)))) (h : Fits s len) :
    ∃ t, exec i s = .next t ∧ t.pc = target (s.pc + BitVec.ofNat 16 len) ∧ t.sp = s.sp ∧ t.flags = s.flags ∧
      Frame [] [] s t :=
  ⟨s.setPc (target (s.pc + BitVec.ofNat 16 len)), by rw [he, nextPc_of_fits h]; rfl, rfl, rfl, rfl,
    Frame.self.setPc⟩

/-- Settles O26: the condition table by the code, and each jump by the PC it writes once `next` is formed. -/
theorem jumpsTransfer : Obligations.JumpsTransfer := fun s =>
  ⟨Cond.holds_eq_selected s.flags,
    fun a16 => ⟨coded_jmp a16, wrapFaults_of_nextPc (coded_jmp a16).length_eq (exec_jmp a16 s),
      next_of_setPc (exec_jmp a16 s)⟩,
    fun cond a16 => ⟨coded_jump cond a16, wrapFaults_of_nextPc (coded_jump cond a16).length_eq (exec_jump cond a16 s),
      next_of_setPc (exec_jump cond a16 s)⟩,
    coded_pchl, wrapFaults_of_nextPc coded_pchl.length_eq (exec_pchl s), next_of_setPc (exec_pchl s)⟩

end Sys2Proof.Machine
end

section
/-! PROOFS. 44_stack_io_control.md R232, R234, R238, R241, R242 and R248: POP and XTHL move a pair, OUT writes the port
mirror, and DI, NOP and HLT write at most one control bit. -/

namespace Sys2Proof.Safety

open Sys2Proof.Machine

/-- The frame through a write of a stack pair, whose two registers are named. -/
theorem Frame.setPair {regs : List Reg} {addrs : List Word} {s t : State} {p : StackPair} {v : Word}
    (h : Frame regs addrs s t) (hhigh : p.halves.1 ∈ regs) (hlow : p.halves.2 ∈ regs) :
    Frame regs addrs s (t.setPair p.pair v) := by
  cases p with
  | bc | de | hl => exact (h.setReg hhigh).setReg hlow

end Sys2Proof.Safety

namespace Sys2Proof.Machine

open Sys2Proof.Safety

/-! The bytes and the cost of each form (30_encoding.md R94; 70_reset_and_hazards.md R325). -/

theorem coded_pop (p : StackPair) : Coded (Form.pop p) [0b11#2 ++ p.pair.code ++ 0b0001#4] 10 := by
  cases p <;> exact coded_of_encode rfl rfl rfl

theorem coded_xthl : Coded .xthl [0b11100011#8] 18 := coded_of_encode rfl rfl rfl

theorem coded_outPort (port : Byte) : Coded (.outPort port) [0b11010011#8, port] 10 := coded_of_encode rfl rfl rfl

theorem coded_di : Coded .di [0b11110011#8] 4 := coded_of_encode rfl rfl rfl

theorem coded_nop : Coded .nop [0b00000000#8] 4 := coded_of_encode rfl rfl rfl

theorem coded_hlt : Coded .hlt [0b01110110#8] 7 := coded_of_encode rfl rfl rfl

/-! POP and XTHL. -/

/-- POP where `next` and SP + 2 can be formed. -/
theorem exec_pop_of_fits {p : StackPair} {s : State} (h : Fits s 1) (hp : PopFits s) :
    exec (Form.pop p) s = .next (((s.setSp (s.sp + 2)).setPair p.pair
      (wordOf (s.readByte (s.sp + 1)) (s.readByte s.sp))).setPc (s.pc + 1)) := by
  simp [exec_pop, popPair, nextPc_of_fits h, pop16_of_fits hp]

theorem popFaults_pop {p : StackPair} {s : State} (h : Fits s 1) : PopFaults (Form.pop p) s := by
  intro hp
  simp [exec_pop, popPair, nextPc_of_fits h, pop16_of_not_fits hp]

/-- A write of a register pair leaves SP alone. -/
theorem State.setPair_stackPair_sp (s : State) (p : StackPair) (v : Word) : (s.setPair p.pair v).sp = s.sp :=
  State.setPair_sp_of_ne s v (by cases p <;> decide)

/-- Settles O31: `next` is formed first, then the pop writes SP and the two registers of the pair. -/
theorem popLoadsAPair : Obligations.PopLoadsAPair := by
  intro p s
  refine ⟨coded_pop p, wrapFaults_of_nextPc (coded_pop p).length_eq (exec_pop p s), fun h hp => ?_, popFaults_pop⟩
  refine ⟨_, exec_pop_of_fits h hp, rfl, State.setPair_stackPair_sp _ p _, ?_, ?_, State.setPair_flags _ _ _,
    (Frame.self.setSp.setPair (.head _) (.tail _ (.head _))).setPc⟩
  · rw [State.reg_setPc, State.reg_high_setPair]; exact hiByte_wordOf _ _
  · rw [State.reg_setPc, State.reg_low_setPair]; exact loByte_wordOf _ _

/-- XTHL where `next` and SP + 1 can be formed. -/
theorem exec_xthl_of_fits {s : State} (h : Fits s 1) (hw : WordFits s s.sp) :
    exec .xthl s = .next (((s.writeBoth s.sp s.hl).setPair .hl
      (wordOf (s.readByte (s.sp + 1)) (s.readByte s.sp))).setPc (s.pc + 1)) := by
  simp [exec_xthl, execXthl, nextPc_of_fits h, readWord_of_fits hw, writeWord_of_fits hw]

theorem exec_xthl_of_not_wordFits {s : State} (h : Fits s 1) (hw : ¬ WordFits s s.sp) :
    exec .xthl s = .fault (.addressWrap s.pc 0x10000) := by
  simp [exec_xthl, execXthl, nextPc_of_fits h, readWord_of_not_fits hw, succ_of_not_wordFits hw]

/-- Settles O33: the word at SP is read before HL is stored over it. -/
theorem xthlExchangesTheStackTop : Obligations.XthlExchangesTheStackTop := by
  intro s
  refine ⟨coded_xthl, wrapFaults_of_nextPc coded_xthl.length_eq (exec_xthl s), fun h hw => ?_,
    exec_xthl_of_not_wordFits⟩
  have hframe : Frame [.h, .l] [s.sp, s.sp + 1] s (s.writeBoth s.sp s.hl) :=
    Frame.self.writeBoth (.head _) (.tail _ (.head _))
  refine ⟨_, exec_xthl_of_fits h hw, rfl, loByte_wordOf _ _, hiByte_wordOf _ _, ?_, ?_, ?_, ?_,
    (hframe.setPair (p := .hl) (.head _) (.tail _ (.head _))).setPc⟩
  · rw [State.readByte_setPc, State.readByte_setPair, State.readByte_writeBoth_low]; exact loByte_wordOf s.h s.l
  · rw [State.readByte_setPc, State.readByte_setPair, State.readByte_writeBoth_high]; exact hiByte_wordOf s.h s.l
  · rw [State.setPc_sp, State.setPair_sp_of_ne _ _ (by decide), State.writeBoth_sp]
  · rw [State.setPc_flags, State.setPair_flags, State.writeBoth_flags]

/-! OUT. -/

/-- The state after the byte `v` is output to `port` (20_memory.md R72). -/
def State.output (s : State) (port v : Byte) : State :=
  { s with ports := s.ports.write port (v.zeroExtend 16) }.emit (.output port v)

theorem portOut_of_handler {pc0 : Word} {s : State} {port v : Byte} (h : s.outHandler = true) :
    portOut pc0 s port v = .ok (s.output port v) := if_pos h

theorem portOut_of_no_handler {pc0 : Word} {s : State} {port v : Byte} (h : s.outHandler = false) :
    portOut pc0 s port v = .error (.missingHandler pc0 port) := if_neg (ne_true_of_eq_false h)

/-- OUT with a handler, where `next` can be formed. -/
theorem exec_outPort_of_handler {port : Byte} {s : State} (h : Fits s 2) (hout : s.outHandler = true) :
    exec (.outPort port) s = .next ((s.output port s.a).setPc (s.pc + 2)) := by
  simp [exec_outPort, execOutPort, nextPc_of_fits h, portOut_of_handler hout]

theorem exec_outPort_of_no_handler {port : Byte} {s : State} (h : Fits s 2) (hout : s.outHandler = false) :
    exec (.outPort port) s = .fault (.missingHandler s.pc port) := by
  simp [exec_outPort, execOutPort, nextPc_of_fits h, portOut_of_no_handler hout]

/-- The mirror slot of the port gets the byte with a zero high byte. -/
theorem State.read_output_same (s : State) (port v : Byte) : (s.output port v).ports.read port = 0x00#8 ++ v :=
  (Ports.read_write _ _ _ _).trans ((if_pos rfl).trans (BitVec.setWidth_eq_append (by decide)))

/-- Every other mirror slot is kept. -/
theorem State.read_output_of_ne (s : State) {port q : Byte} (v : Byte) (h : q ≠ port) :
    (s.output port v).ports.read q = s.ports.read q :=
  (Ports.read_write _ _ _ _).trans (if_neg h)

/-- Settles O35: `next` is formed first, then the output writes the mirror and the trace alone. -/
theorem outWritesTheMirror : Obligations.OutWritesTheMirror := by
  intro port s
  refine ⟨coded_outPort port, wrapFaults_of_nextPc (coded_outPort port).length_eq (exec_outPort port s),
    fun h hout => ?_, exec_outPort_of_no_handler⟩
  exact ⟨_, exec_outPort_of_handler h hout, rfl, State.read_output_same s port s.a,
    fun _ hq => State.read_output_of_ne s s.a hq, rfl, rfl, rfl, rfl, rfl, rfl, keepsRegs_setPc.2 fun _ _ => rfl,
    keepsMemory_setPc.2 fun _ _ => rfl, ⟨rfl, rfl, rfl⟩, rfl, rfl, rfl, rfl⟩

/-! DI, NOP and HLT. -/

/-- What a state keeps that writes IE, HALT and PC alone. -/
theorem keeps_control (s : State) (ie halt : Bool) (pc : Word) :
    let t := { s with ie := ie, halt := halt }.setPc pc
    t.sp = s.sp ∧ t.flags = s.flags ∧ KeepsRegs [] s t ∧ KeepsMemory [] s t ∧ KeepsEngine s t ∧ KeepsIo s t :=
  ⟨rfl, rfl, fun _ _ => rfl, fun _ _ => rfl, ⟨rfl, rfl, rfl, rfl⟩, rfl, rfl, rfl, rfl, rfl⟩

/-- Settles O37: each of the three ends by `complete`, DI with IE cleared, NOP as it began, HLT with HALT set. -/
theorem diNopHltControlTheCore : Obligations.DiNopHltControlTheCore := fun s =>
  ⟨coded_di, coded_nop, coded_hlt, coded_di.wrapFaults (exec_di s), coded_nop.wrapFaults (exec_nop s),
    coded_hlt.wrapFaults (exec_hlt s), fun h =>
    ⟨next_of_complete (exec_di s) h ⟨rfl, rfl, rfl, rfl, keeps_control s false s.halt _⟩,
      next_of_complete (exec_nop s) h ⟨rfl, rfl, rfl, Frame.self.setPc⟩,
      next_of_complete (exec_hlt s) h ⟨rfl, rfl, rfl, rfl, keeps_control s s.ie true _⟩⟩⟩

end Sys2Proof.Machine
end

section
/-! PROOF SUPPORT. What a step charges to the budget (70_reset_and_hazards.md R320, R322), said once: the cost of an opcode
byte, or that of EI with an interrupt entry. A step never refuses. -/

namespace Sys2Proof.Machine

/-- No primitive update writes the budget. -/
theorem Updated.budget_eq {s t : State} (h : Updated s t) : t.budget = s.budget := by
  induction h with
  | none => rfl
  | setReg _ ih => rw [State.setReg_budget, ih]
  | setPc _ ih | setSp _ ih | setFlags _ ih | writeByte _ ih | emit _ ih | draw _ ih | mirror _ ih => exact ih

/-- No primitive update writes the parameters. -/
theorem Updated.params_eq {s t : State} (h : Updated s t) : t.params = s.params := by
  induction h with
  | none => rfl
  | setReg _ ih => rw [State.setReg_params, ih]
  | setPc _ ih | setSp _ ih | setFlags _ ih | writeByte _ ih | emit _ ih | draw _ ih | mirror _ ih => exact ih

@[simp] theorem State.entered_params (s : State) (id : Byte) : (s.entered id).params = s.params := by
  simp [State.entered]
@[simp] theorem State.entered_budget (s : State) (id : Byte) : (s.entered id).budget = s.budget - intCost := rfl

/-- An instruction keeps the parameters and the budget, but for an EI that enters an interrupt. -/
theorem exec_params_budget {i : Instr} {s t : State} (h : exec i s = .next t) : t.params = s.params ∧
    (t.budget = s.budget ∨ (i = .ei ∧ t.budget = s.budget - intCost)) := by
  by_cases hei : i = .ei
  · subst hei
    obtain ⟨-, next, rfl⟩ | ⟨next, id, rfl⟩ := exec_ei_eq_next h
    · exact ⟨rfl, .inl rfl⟩
    · exact ⟨State.entered_params _ id, .inr ⟨rfl, State.entered_budget _ id⟩⟩
  by_cases hdi : i = .di
  · subst hdi
    obtain ⟨-, rfl⟩ := complete_eq_next.1 (exec_di s ▸ h)
    exact ⟨rfl, .inl rfl⟩
  by_cases hhlt : i = .hlt
  · subst hhlt
    obtain ⟨-, rfl⟩ := complete_eq_next.1 (exec_hlt s ▸ h)
    exact ⟨rfl, .inl rfl⟩
  have hu := updated_of_exec hei hdi hhlt h
  exact ⟨hu.params_eq, .inl hu.budget_eq⟩

/-- The opcode map holds at row r and column k an instruction with opcode byte 16 r + k (30_encoding.md R99). -/
theorem opcodes_of_opcodeMap (d8 : Byte) (d16 : Word) : (opcodeMap d8 d16).map (List.map Instr.opcode) =
    (List.range 16).map fun r => (List.range 16).map fun k => BitVec.ofNat 8 (16 * r + k) := rfl

/-- The instruction of an opcode byte has that opcode byte. -/
theorem opcode_instrOf (op d8 : Byte) (d16 : Word) : (instrOf op d8 d16).opcode = op := by
  have hrow : ((opcodeMap d8 d16).getD (op.toNat / 16) []).map Instr.opcode =
      ((opcodeMap d8 d16).map (List.map Instr.opcode)).getD (op.toNat / 16) [] := (List.getD_map ..).symm
  have hentry : (instrOf op d8 d16).opcode =
      (((opcodeMap d8 d16).getD (op.toNat / 16) []).map Instr.opcode).getD (op.toNat % 16) Instr.nop.opcode :=
    (List.getD_map ..).symm
  rw [hentry, hrow, opcodes_of_opcodeMap]
  clear hentry hrow
  revert op; decide +kernel

/-- A fetched instruction has the opcode byte at PC. -/
theorem opcode_of_fetch {s : State} {i : Instr} (h : fetch s = .ok i) : i.opcode = s.opcodeByte := by
  unfold fetch at h
  split at h
  · cases h; exact opcode_instrOf _ _ _
  · obtain ⟨second, -, hi⟩ := except_bind_eq_ok.1 h
    cases hi; exact opcode_instrOf _ _ _
  · obtain ⟨second, -, hrest⟩ := except_bind_eq_ok.1 h
    obtain ⟨third, -, hi⟩ := except_bind_eq_ok.1 hrest
    cases hi; exact opcode_instrOf _ _ _

/-- The charge of a step: the cost of an opcode byte, with an interrupt entry only in the step of an EI. -/
theorem step_charge {s t : State} (h : step s = .next t) : t.params = s.params ∧ ∃ cost : Nat,
    t.budget = s.budget - cost ∧ ((∃ op, cost = s.params.cycleCost op) ∨ cost = s.params.cycleCost 0xFB + intCost) := by
  obtain ⟨-, ⟨-, rfl⟩ | ⟨-, i, u, hi, hu, rfl⟩⟩ := step_eq_next.1 h
  · exact ⟨rfl, _, rfl, .inl ⟨0x76, rfl⟩⟩
  · obtain ⟨hparams, hbudget | ⟨rfl, hbudget⟩⟩ := exec_params_budget hu
    · exact ⟨hparams, s.params.cycleCost s.opcodeByte, congrArg (· - _) hbudget, .inl ⟨_, rfl⟩⟩
    · have hop : s.opcodeByte = 0xFB := (opcode_of_fetch hi).symm
      refine ⟨hparams, s.params.cycleCost s.opcodeByte + intCost, ?_, .inr (by rw [hop])⟩
      simp only [retire, State.charge_budget, hbudget]
      omega

/-- With well-formed parameters a step charges at least 1 and at most `MAX_COST` = 18 (70_reset_and_hazards.md R322). -/
theorem step_charge_of_wf {s t : State} (hwf : s.params.wf = true) (h : step s = .next t) :
    t.params = s.params ∧ t.budget < s.budget ∧ s.budget ≤ t.budget + maxCost := by
  obtain ⟨hparams, cost, hbudget, hcost⟩ := step_charge h
  obtain ⟨hall, hei⟩ := Params.cost_of_wf hwf
  have hbounds : 1 ≤ cost ∧ cost ≤ maxCost := by
    obtain ⟨op, rfl⟩ | rfl := hcost
    · exact hall op
    · exact ⟨(hall 0xFB).1.trans (Nat.le_add_right _ _), hei⟩
  exact ⟨hparams, by omega, by omega⟩

/-- Most meanings end by `complete`, the others are an `outcome` as they stand. -/
theorem complete_eq_outcome (len : Nat) (s t : State) : ∃ r, complete len s t = outcome r := ⟨_, rfl⟩

theorem exec_alu_eq_outcome (op : AluOp) (x : Src) (s : State) : ∃ r, exec (Form.alu op x) s = outcome r := by
  cases op with
  | add => exact exec_alu_add x s ▸ complete_eq_outcome ..
  | adc => exact exec_alu_adc x s ▸ complete_eq_outcome ..
  | sub => exact exec_alu_sub x s ▸ complete_eq_outcome ..
  | sbb => exact exec_alu_sbb x s ▸ complete_eq_outcome ..
  | ana => exact exec_alu_ana x s ▸ complete_eq_outcome ..
  | xra => exact exec_alu_xra x s ▸ complete_eq_outcome ..
  | ora => exact exec_alu_ora x s ▸ complete_eq_outcome ..
  | cmp => exact exec_alu_cmp x s ▸ complete_eq_outcome ..

/-- The meaning of every instruction ends in an outcome, a next state or a fault. -/
theorem exec_eq_outcome (i : Instr) (s : State) : ∃ r, exec i s = outcome r := by
  cases inForm i with
  | mov dst src => exact exec_mov dst src s ▸ complete_eq_outcome ..
  | movFromM dst => exact exec_movFromM dst s ▸ complete_eq_outcome ..
  | movToM src => exact exec_movToM src s ▸ complete_eq_outcome ..
  | mvi dst v => exact exec_mvi dst v s ▸ complete_eq_outcome ..
  | lxi p v => exact exec_lxi p v s ▸ complete_eq_outcome ..
  | ldax p => exact exec_ldax p s ▸ complete_eq_outcome ..
  | stax p => exact exec_stax p s ▸ complete_eq_outcome ..
  | inr dst => exact exec_inr dst s ▸ complete_eq_outcome ..
  | dcr dst => exact exec_dcr dst s ▸ complete_eq_outcome ..
  | inx p => exact exec_inx p s ▸ complete_eq_outcome ..
  | dcx p => exact exec_dcx p s ▸ complete_eq_outcome ..
  | dad p => exact exec_dad p s ▸ complete_eq_outcome ..
  | alu op x => exact exec_alu_eq_outcome op x s
  | jump cond a16 => exact ⟨_, exec_jump cond a16 s⟩
  | callIf cond a16 => exact ⟨_, exec_callIf cond a16 s⟩
  | returnIf cond => exact ⟨_, exec_returnIf cond s⟩
  | rst n => exact ⟨_, exec_rst n s⟩
  | push p => exact ⟨_, exec_push p s⟩
  | pop p => exact ⟨_, exec_pop p s⟩
  | undocumented op hop => exact exec_undocumented hop s ▸ complete_eq_outcome ..
  | shld a16 => exact ⟨_, exec_shld a16 s⟩
  | lhld a16 => exact ⟨_, exec_lhld a16 s⟩
  | sta a16 => exact exec_sta a16 s ▸ complete_eq_outcome ..
  | mviM d8 => exact exec_mviM d8 s ▸ complete_eq_outcome ..
  | lda a16 => exact exec_lda a16 s ▸ complete_eq_outcome ..
  | jmp a16 => exact ⟨_, exec_jmp a16 s⟩
  | call a16 => exact ⟨_, exec_call a16 s⟩
  | outPort d8 => exact ⟨_, exec_outPort d8 s⟩
  | inPort d8 => exact ⟨_, exec_inPort d8 s⟩
  | nop => exact exec_nop s ▸ complete_eq_outcome ..
  | rlc => exact exec_rlc s ▸ complete_eq_outcome ..
  | rrc => exact exec_rrc s ▸ complete_eq_outcome ..
  | ral => exact exec_ral s ▸ complete_eq_outcome ..
  | rar => exact exec_rar s ▸ complete_eq_outcome ..
  | daa => exact exec_daa s ▸ complete_eq_outcome ..
  | cma => exact exec_cma s ▸ complete_eq_outcome ..
  | inrM => exact exec_inrM s ▸ complete_eq_outcome ..
  | dcrM => exact exec_dcrM s ▸ complete_eq_outcome ..
  | stc => exact exec_stc s ▸ complete_eq_outcome ..
  | cmc => exact exec_cmc s ▸ complete_eq_outcome ..
  | hlt => exact exec_hlt s ▸ complete_eq_outcome ..
  | ret => exact ⟨_, exec_ret s⟩
  | xthl => exact ⟨_, exec_xthl s⟩
  | pchl => exact ⟨_, exec_pchl s⟩
  | xchg => exact exec_xchg s ▸ complete_eq_outcome ..
  | popPsw => exact ⟨_, exec_popPsw s⟩
  | di => exact exec_di s ▸ complete_eq_outcome ..
  | pushPsw => exact ⟨_, exec_pushPsw s⟩
  | sphl => exact exec_sphl s ▸ complete_eq_outcome ..
  | ei => exact ⟨_, exec_ei s⟩

/-- A step refuses nothing. -/
theorem step_next_or_fault (s : State) : (∃ t, step s = .next t) ∨ ∃ f, step s = .fault f := by
  unfold step
  split
  · exact .inr ⟨_, rfl⟩
  · exact .inl ⟨_, rfl⟩
  · next i t _ =>
    obtain ⟨r, hr⟩ := exec_eq_outcome i t
    cases r with
    | ok u => exact .inl ⟨_, by rw [hr]; rfl⟩
    | error f => exact .inr ⟨_, by rw [hr]; rfl⟩

end Sys2Proof.Machine
end

section
/-! PROOF SUPPORT. How `update` goes, one equation per case of 70_reset_and_hazards.md R320, R321 and R323. -/

namespace Sys2Proof.Machine

theorem updateLoop_of_spent {n : Int} {fuel : Nat} {s t : State} (h : step s = .next t) (ht : t.budget ≤ 0) :
    updateLoop n (fuel + 1) s = .next (t, .consumed (n - t.budget)) := by
  rw [updateLoop, h]; exact if_pos ht

theorem updateLoop_of_left {n : Int} {fuel : Nat} {s t : State} (h : step s = .next t) (ht : 0 < t.budget) :
    updateLoop n (fuel + 1) s = updateLoop n fuel t := by
  rw [updateLoop, h]; exact if_neg (by omega)

theorem updateLoop_of_fault {n : Int} {fuel : Nat} {s : State} {f : Fault} (h : step s = .fault f) :
    updateLoop n (fuel + 1) s = .next (s.stopWith f, .faulted f) := by
  rw [updateLoop, h]

theorem update_of_pos {n : Int} {s : State} (hn : 0 < n) (h : s.faultRec = none) :
    update n s = updateLoop n n.toNat { s with budget := n } := by
  rw [update, h]; exact if_pos (decide_eq_true hn)

theorem update_of_nonpos {n : Int} (hn : n ≤ 0) (s : State) : update n s = .next (s, .preconditionViolation) :=
  if_neg fun h => absurd (of_decide_eq_true h) (by omega)

end Sys2Proof.Machine
end

section
/-! PROOFS. 70_reset_and_hazards.md R311, R321 and R322: reset, the budgets that `update` rejects, and the cycles that it
consumes. -/

namespace Sys2Proof.Machine

/-- The loop on a positive budget with as much fuel: each step takes 1 to 18 off the budget, so the loop ends, and it
overshoots by less than 18. -/
theorem updateLoop_ends {n : Int} {fuel : Nat} {s : State} (hwf : s.params.wf = true) (hpos : 0 < s.budget)
    (hfuel : s.budget ≤ fuel) :
    (∃ (t : State) (k : Nat), updateLoop n fuel s = .next (t, .consumed (n - t.budget)) ∧
      core.run (k + 1) s = .next t ∧ t.budget ≤ 0 ∧ -18 < t.budget) ∨
    ∃ t f, updateLoop n fuel s = .next (t, .faulted f) := by
  induction fuel generalizing s with
  | zero => omega
  | succ fuel ih =>
    obtain ⟨t, ht⟩ | ⟨f, hf⟩ := step_next_or_fault s
    · obtain ⟨hparams, hless, hmost⟩ := step_charge_of_wf hwf ht
      by_cases hspent : t.budget ≤ 0
      · have hlow : -18 < t.budget := by rw [maxCost] at hmost; omega
        exact .inl ⟨t, 0, updateLoop_of_spent ht hspent, core_run_next ht, hspent, hlow⟩
      · rw [updateLoop_of_left ht (by omega)]
        obtain ⟨u, k, hu, hrun, hbounds⟩ | hfault := ih (hparams ▸ hwf) (by omega) (by omega)
        · exact .inl ⟨u, k + 1, hu, (core_run_next ht).trans hrun, hbounds⟩
        · exact .inr hfault
    · exact .inr ⟨_, f, updateLoop_of_fault hf⟩

/-- Settles O50: the loop starts with the budget n and ends with more than -18 of it left. -/
theorem updateConsumesWithinBounds : Obligations.UpdateConsumesWithinBounds := by
  refine ⟨defaultParams_wf, fun n s hwf hn hrec => ?_⟩
  rw [update_of_pos hn hrec]
  obtain ⟨t, k, ht, hrun, hspent, hlow⟩ | hfault :=
    updateLoop_ends (n := n) (s := { s with budget := n }) hwf hn (Int.self_le_toNat n)
  · exact .inl ⟨t, _, k, ht, hrun, by omega, by omega⟩
  · exact .inr hfault

/-- Memory after reset (10_state.md R48): zero but for the bootstrap byte. -/
theorem State.readByte_resetOp (s : State) (a : Word) :
    (resetOp s).readByte a = if a = 1 then s.params.bootOpcode else 0 := by
  have haddr : a.toNat = bootAddress ↔ a = 1 := BitVec.toNat_inj (y := 1)
  exact if_congr haddr rfl rfl

/-- Every register after reset. -/
theorem State.reg_resetOp (s : State) (r : Reg) : (resetOp s).reg r = 0 := by cases r <;> rfl

/-- Settles O47: the fields of `resetOp`, and its registers and memory. -/
theorem resetRestoresTheResetState : Obligations.ResetRestoresTheResetState :=
  ⟨rfl, rfl, fun s => ⟨rfl, resetOp s, rfl, State.reg_resetOp s, rfl, rfl, rfl, rfl, rfl, rfl, rfl, rfl, rfl, rfl, rfl,
    rfl, State.readByte_resetOp s, fun _ => rfl, rfl, rfl, rfl, rfl⟩⟩

/-- Settles O51: the guard of `update` fails before anything is written. -/
theorem updateRejectsNonPositiveBudgets : Obligations.UpdateRejectsNonPositiveBudgets := fun _ s hn =>
  update_of_nonpos hn s

end Sys2Proof.Machine
end

section
/-! PROOFS. 30_encoding.md R90 to R92, R99 and R101: the encoder and the decoder undo each other, by the length that
the opcode byte gives. -/

namespace Sys2Proof

/-- An instruction with a 16-bit operand, read from the bytes of that operand. -/
theorem decode_of_word {op : Byte} (w : Word) (rest : List Byte) (h : lengthOf op = 3) :
    decode (op :: loByte w :: hiByte w :: rest) = .ok (instrOf op 0 w, rest) := by
  rw [decode_of_length_three _ _ _ h, wordOf_hiByte_loByte]

/-- Decoding undoes encoding: the rows with a 16-bit operand, those with a byte, and those with none. -/
theorem decode_encode (i : Instr) (rest : List Byte) : decode (encode i ++ rest) = .ok (i, rest) := by
  cases i with
  | lxiB w | lxiD w | lxiH w | lxiSp w | shld w | lhld w | sta w | lda w | jmp w | call w
  | jnz w | jz w | jnc w | jc w | jpo w | jpe w | jp w | jm w
  | cnz w | cz w | cnc w | cc w | cpo w | cpe w | cp w | cm w => exact decode_of_word w rest rfl
  | mviB v | mviC v | mviD v | mviE v | mviH v | mviL v | mviM v | mviA v | inPort v | outPort v
  | adi v | aci v | sui v | sbi v | ani v | xri v | ori v | cpi v => exact decode_of_length_two v rest rfl
  | _ => exact decode_of_length_one rest rfl

/-- Settles O1, by the length of the encoding. -/
theorem decodeOfEncodeIsTheInstruction : Obligations.DecodeOfEncodeIsTheInstruction :=
  fun i rest _ => decode_encode i rest

/-- The bytes that an opcode byte stands for, with its operand taken from `d8` or `d16` by its length (R91, R92). -/
def bytesOf (op d8 : Byte) (d16 : Word) : List Byte :=
  match lengthOf op with
  | 1 => [op]
  | 2 => [op, d8]
  | _ => [op, loByte d16, hiByte d16]

/-- The encodings of the 256 rows of the opcode map. -/
theorem encodings_of_opcodeMap (d8 : Byte) (d16 : Word) : (opcodeMap d8 d16).map (List.map encode) =
    (List.range 16).map fun r => (List.range 16).map fun k => bytesOf (BitVec.ofNat 8 (16 * r + k)) d8 d16 := rfl

theorem getD_map_range {α : Type} (f : Nat → α) (d : α) {k n : Nat} (h : k < n) :
    ((List.range n).map f).getD k d = f k := by
  simp [h]

/-- The encoding of the instruction that the opcode map holds for a byte. -/
theorem encode_instrOf (op d8 : Byte) (d16 : Word) : encode (instrOf op d8 d16) = bytesOf op d8 d16 := by
  have hrow : ((opcodeMap d8 d16).getD (op.toNat / 16) []).map encode =
      ((opcodeMap d8 d16).map (List.map encode)).getD (op.toNat / 16) [] := (List.getD_map ..).symm
  have hentry : encode (instrOf op d8 d16) =
      (((opcodeMap d8 d16).getD (op.toNat / 16) []).map encode).getD (op.toNat % 16) (encode .nop) :=
    (List.getD_map ..).symm
  have hop : BitVec.ofNat 8 (16 * (op.toNat / 16) + op.toNat % 16) = op := by
    rw [Nat.div_add_mod, BitVec.ofNat_toNat, BitVec.setWidth_eq]
  have hlt := op.isLt
  rw [hentry, hrow, encodings_of_opcodeMap, getD_map_range _ _ (by omega), getD_map_range _ _ (by omega), hop]

/-- Everything that a decoder which answers can have read. -/
theorem decode_eq_ok {bytes rest : List Byte} {i : Instr} (h : decode bytes = .ok (i, rest)) :
    ∃ op d8 d16, i = instrOf op d8 d16 ∧ bytes = bytesOf op d8 d16 ++ rest := by
  obtain _ | ⟨op, tail⟩ := bytes
  · cases h
  · rcases lengthOf_cases op with hlen | hlen | hlen
    · cases (decode_of_length_one tail hlen).symm.trans h
      exact ⟨op, 0, 0, rfl, by simp [bytesOf, hlen]⟩
    · obtain _ | ⟨d8, tail⟩ := tail
      · simp [decode, hlen] at h
      · cases (decode_of_length_two d8 tail hlen).symm.trans h
        exact ⟨op, d8, 0, rfl, by simp [bytesOf, hlen]⟩
    · obtain _ | ⟨lo, _ | ⟨hi, tail⟩⟩ := tail
      · simp [decode, hlen] at h
      · simp [decode, hlen] at h
      · cases (decode_of_length_three lo hi tail hlen).symm.trans h
        exact ⟨op, 0, wordOf hi lo, rfl, by simp [bytesOf, hlen]⟩

/-- Two bytes after the opcode byte are enough for every length. -/
theorem exists_decode (op second third : Byte) (rest : List Byte) :
    ∃ i left, decode (op :: second :: third :: rest) = .ok (i, left) := by
  rcases lengthOf_cases op with hlen | hlen | hlen
  · exact ⟨_, _, decode_of_length_one _ hlen⟩
  · exact ⟨_, _, decode_of_length_two _ _ hlen⟩
  · exact ⟨_, _, decode_of_length_three _ _ _ hlen⟩

/-- Settles O2: every length can be read, and what was read is the encoding of the instruction. -/
theorem everyOpcodeByteDecodesToItsOwnBytes : Obligations.EveryOpcodeByteDecodesToItsOwnBytes := by
  refine ⟨exists_decode, fun bytes rest i h => ?_⟩
  obtain ⟨op, d8, d16, rfl, rfl⟩ := decode_eq_ok h
  rw [encode_instrOf]

/-- Settles O3: each of the nine words is the encoding of its instruction, from the opcode map. -/
theorem sampleWordsDecode : Obligations.SampleWordsDecode := ⟨rfl, rfl, rfl, rfl, rfl, rfl, rfl, rfl, rfl⟩

end Sys2Proof
end

section
/-! PROOFS. 10_state.md R37, R39, R42 and R45: the invariant of the machine. The tables keep their canonical form
through every primitive update, and PEND is kept or cleared by every step. -/

namespace Sys2Proof.Machine

open Sys2Proof.Safety

/-- Memory and the port mirror are canonical, and every mirror slot has a zero high byte. -/
def TablesOk (s : State) : Prop :=
  s.mem.wf s.params.bootOpcode ∧ s.ports.wf ∧ ∀ slot ∈ s.ports, slot.2.toNat < 256

/-- An output byte is listed in the mirror with a zero high byte (44_stack_io_control.md R238). -/
theorem Ports.slots_write {m : Ports} (h : ∀ slot ∈ m, slot.2.toNat < 256) (port v : Byte) :
    ∀ slot ∈ m.write port (v.zeroExtend 16), slot.2.toNat < 256 := by
  intro slot hslot
  obtain ⟨rfl, -⟩ | hold := Sparse.mem_write _ m _ _ slot hslot
  · have hv := v.isLt
    simp; omega
  · exact h slot hold

/-- Every primitive update keeps the tables. -/
theorem Updated.tablesOk {s t : State} (h : Updated s t) (hs : TablesOk s) : TablesOk t := by
  induction h with
  | none => exact hs
  | @setReg t r v _ ih => cases r <;> exact ih
  | writeByte _ ih =>
    obtain ⟨hmem, hports⟩ := ih
    exact ⟨State.writeByte_wf _ _ _ hmem, hports⟩
  | mirror _ ih =>
    obtain ⟨hmem, hports, hslots⟩ := ih
    exact ⟨hmem, Ports.write_wf _ _ _ hports, Ports.slots_write hslots _ _⟩
  | setPc _ ih | setSp _ ih | setFlags _ ih | emit _ ih | draw _ ih => exact ih

/-- An interrupt entry pushes one word. -/
theorem State.entered_tablesOk {s : State} (h : TablesOk s) (id : Byte) : TablesOk (s.entered id) :=
  (Updated.none.writeBoth : Updated s (s.writeBoth (s.sp - 2) s.pc)).tablesOk h

/-- The next states of an instruction: primitive updates, new control bits (EI, DI, HLT), or an interrupt entry (EI). -/
theorem exec_next_cases {i : Instr} {s t : State} (h : exec i s = .next t) :
    Updated s t ∨ (∃ ie halt pc, t = { s with ie := ie, halt := halt, pc := pc }) ∨
    ∃ next id, t = State.entered { s with ie := true, pc := next, pend := 0 } id := by
  by_cases hei : i = .ei
  · subst hei
    obtain ⟨-, next, rfl⟩ | hentered := exec_ei_eq_next h
    · exact .inr (.inl ⟨true, s.halt, next, rfl⟩)
    · exact .inr (.inr hentered)
  by_cases hdi : i = .di
  · subst hdi
    obtain ⟨-, rfl⟩ := complete_eq_next.1 (exec_di s ▸ h)
    exact .inr (.inl ⟨false, s.halt, _, rfl⟩)
  by_cases hhlt : i = .hlt
  · subst hhlt
    obtain ⟨-, rfl⟩ := complete_eq_next.1 (exec_hlt s ▸ h)
    exact .inr (.inl ⟨s.ie, true, _, rfl⟩)
  exact .inl (updated_of_exec hei hdi hhlt h)

theorem tablesOk_exec {i : Instr} {s t : State} (hs : TablesOk s) (h : exec i s = .next t) : TablesOk t := by
  obtain hu | ⟨ie, halt, pc, rfl⟩ | ⟨next, id, rfl⟩ := exec_next_cases h
  · exact hu.tablesOk hs
  · exact hs
  · exact State.entered_tablesOk (s := { s with ie := true, pc := next, pend := 0 }) hs id

theorem tablesOk_step {s t : State} (hs : TablesOk s) (h : step s = .next t) : TablesOk t := by
  obtain ⟨-, ⟨-, rfl⟩ | ⟨-, i, u, -, hu, rfl⟩⟩ := step_eq_next.1 h
  · exact hs
  · have hkept : TablesOk u := tablesOk_exec (s := { s with lastop := s.opcodeByte }) hs hu
    exact hkept

/-- An instruction keeps PEND or clears it, by an EI that delivers. -/
theorem pend_exec {i : Instr} {s t : State} (h : exec i s = .next t) : t.pend = s.pend ∨ t.pend = 0 := by
  obtain hu | ⟨ie, halt, pc, rfl⟩ | ⟨next, id, rfl⟩ := exec_next_cases h
  · exact .inl hu.pend_eq
  · exact .inl rfl
  · exact .inr (State.entered_pend _ id)

theorem pend_step {s t : State} (h : step s = .next t) : t.pend = s.pend ∨ t.pend = 0 := by
  obtain ⟨-, ⟨-, rfl⟩ | ⟨-, i, u, -, hu, rfl⟩⟩ := step_eq_next.1 h
  · exact .inl rfl
  · have hkept : u.pend = s.pend ∨ u.pend = 0 := pend_exec (s := { s with lastop := s.opcodeByte }) hu
    exact hkept

/-- A legal PEND that is not empty has bit 7 set (R37). -/
theorem bit7_of_legal {pend : Byte} (h : 0x80 ≤ pend.toNat) : pend.getLsbD 7 = true := by
  have hlt := pend.isLt
  rw [BitVec.getLsbD, Nat.testBit_eq_decide_div_mod_eq]
  simp; omega

theorem pendingDisabled_of_inv {s : State} (h : Safety.Inv s) : PendingDisabled s := by
  obtain ⟨-, -, -, -, hlegal, hie⟩ := h
  intro hp
  obtain hzero | ⟨hlow, -⟩ := hlegal
  · exact absurd hzero hp
  · exact ⟨bit7_of_legal hlow, hie hp⟩

/-- Settles O58: the parameters are kept, the tables keep their form, PEND is kept or cleared, and a request still
pends only while interrupts are disabled. -/
theorem everyStepKeepsTheInvariant : Obligations.EveryStepKeepsTheInvariant := by
  intro s t hs h
  have hpending := pendingDisabled_step (pendingDisabled_of_inv hs) h
  obtain ⟨hwf, hmem, hports, hslots, hlegal, -⟩ := hs
  obtain ⟨hparams, -⟩ := step_charge h
  obtain ⟨hmem', hports', hslots'⟩ := tablesOk_step ⟨hmem, hports, hslots⟩ h
  refine ⟨hparams ▸ hwf, hmem', hports', hslots', ?_, fun hp => (hpending hp).2⟩
  obtain hkept | hcleared := pend_step h
  · exact hkept ▸ hlegal
  · exact .inl hcleared

/-- After construction the tables are empty and nothing pends. -/
theorem inv_construct {p : Params} (h : p.wf = true) : Safety.Inv (construct p) :=
  ⟨h, ⟨.nil, nofun⟩, ⟨.nil, nofun⟩, nofun, .inl rfl, fun hp => absurd rfl hp⟩

/-- Settles O59: the invariant does not speak of the handlers, in which `State.reset` differs from construction. -/
theorem invariantHoldsAtReset : Obligations.InvariantHoldsAtReset :=
  ⟨inv_construct defaultParams_wf, fun _ => inv_construct⟩

end Sys2Proof.Machine
end

section
/-! PROOF SUPPORT. The meanings that push and return (20_memory.md R65, R66; 60_exceptions.md R282): what each leaves,
and its stack fault, from the operation it ends in. -/

namespace Sys2Proof.Machine

open Sys2Proof.Safety

theorem callTo_of_fits {target v : Word} {s : State} (h : PushFits s) :
    callTo target v s = .ok (((s.writeBoth (s.sp - 2) v).setSp (s.sp - 2)).setPc target) := by
  simp [callTo, push16_of_fits h]

theorem callTo_of_not_fits {target v : Word} {s : State} (h : ¬ PushFits s) :
    callTo target v s = .error (.addressWrap s.pc ((s.sp.toNat : Int) - 2)) := by
  simp [callTo, push16_of_not_fits h]

/-- A pushed word writes the two bytes below SP. -/
theorem frame_pushed (s : State) (v : Word) :
    Frame [] [s.sp - 2, s.sp - 1] s ((s.writeBoth (s.sp - 2) v).setSp (s.sp - 2)) :=
  (Frame.self.writeBoth (.head _) (by rw [succ_sp_sub_two]; exact .tail _ (.head _))).setSp

/-- A meaning that pushes `v` and goes to `target`. -/
theorem next_of_callTo {i : Instr} {target v : Word} {s : State} (he : exec i s = outcome (callTo target v s))
    (h : PushFits s) :
    ∃ t, exec i s = .next t ∧ t.pc = target ∧ t.sp = s.sp - 2 ∧ t.readByte (s.sp - 2) = v.extractLsb' 0 8 ∧
      t.readByte (s.sp - 1) = v.extractLsb' 8 8 ∧ t.flags = s.flags ∧ Frame [] [s.sp - 2, s.sp - 1] s t :=
  ⟨_, he.trans (congrArg outcome (callTo_of_fits h)), rfl, rfl, State.readByte_pushed_low s v (s.sp - 2),
    State.readByte_pushed_high s v (s.sp - 2), by simp, (frame_pushed s v).setPc⟩

theorem pushFaults_of_callTo {i : Instr} {target v : Word} {s : State} (he : exec i s = outcome (callTo target v s)) :
    PushFaults i s := fun h => he.trans (congrArg outcome (callTo_of_not_fits h))

/-- A meaning that returns. -/
theorem next_of_returnTo {i : Instr} {s : State} (he : exec i s = outcome (returnTo s)) (h : PopFits s) :
    ∃ t, exec i s = .next t ∧ t.pc = s.readByte (s.sp + 1) ++ s.readByte s.sp ∧ t.sp = s.sp + 2 ∧ t.flags = s.flags ∧
      Frame [] [] s t :=
  ⟨_, he.trans (congrArg outcome (returnTo_of_fits h)), rfl, rfl, rfl, Frame.self.setSp.setPc⟩

theorem popFaults_of_returnTo {i : Instr} {s : State} (he : exec i s = outcome (returnTo s)) : PopFaults i s :=
  fun h => he.trans (congrArg outcome (returnTo_of_not_fits h))

/-- A meaning that goes on to the next instruction. -/
theorem next_of_goOn {i : Instr} {s : State} {next : Word} (he : exec i s = .next (s.setPc next)) :
    ∃ t, exec i s = .next t ∧ t.pc = next ∧ t.sp = s.sp ∧ t.flags = s.flags ∧ Frame [] [] s t :=
  ⟨_, he, rfl, rfl, rfl, Frame.self.setPc⟩

/-- The address of a vector is eight times its number (20_memory.md R74). -/
theorem vectorAddr_eq (id : Byte) : vectorAddr id = BitVec.ofNat 16 (id.toNat * 8) := by
  apply BitVec.eq_of_toNat_eq
  simp [vectorAddr, vectorSpacing]

end Sys2Proof.Machine
end

section
/-! PROOFS. 43_branch.md R214 to R218: calls, returns and restarts. -/

namespace Sys2Proof.Machine

open Sys2Proof.Safety

/-! The bytes and the cost of each form (30_encoding.md R95, R96; 70_reset_and_hazards.md R325). -/

theorem coded_call (a16 : Word) : Coded (.call a16) [0b11001101#8, a16.extractLsb' 0 8, a16.extractLsb' 8 8] 17 :=
  coded_of_encode rfl rfl rfl

theorem coded_callIf (cond : Cond) (a16 : Word) :
    Coded (Form.callIf cond a16) [0b11#2 ++ cond.code ++ 0b100#3, a16.extractLsb' 0 8, a16.extractLsb' 8 8] 17 := by
  cases cond <;> exact coded_of_encode rfl rfl rfl

theorem coded_ret : Coded .ret [0b11001001#8] 10 := coded_of_encode rfl rfl rfl

theorem coded_returnIf (cond : Cond) : Coded (Form.returnIf cond) [0b11#2 ++ cond.code ++ 0b000#3] 11 := by
  cases cond <;> exact coded_of_encode rfl rfl rfl

theorem coded_rst (n : Fin 8) : Coded (Form.rst n) [0b11#2 ++ BitVec.ofNat 3 n ++ 0b111#3] 11 := by
  fin_cases n <;> exact coded_of_encode rfl rfl rfl

/-! What each form runs once `next` is formed. -/

theorem exec_call_of_fits {a16 : Word} {s : State} (h : Fits s 3) :
    exec (.call a16) s = outcome (callTo a16 (s.pc + 3) s) := by
  simp [exec_call, execCall, nextPc_of_fits h]

theorem exec_callIf_taken {cond : Cond} {a16 : Word} {s : State} (h : Fits s 3) (hc : cond.holds s.flags = true) :
    exec (Form.callIf cond a16) s = outcome (callTo a16 (s.pc + 3) s) := by
  simp [exec_callIf, callOn, nextPc_of_fits h, hc]

theorem exec_callIf_not_taken {cond : Cond} {a16 : Word} {s : State} (h : Fits s 3)
    (hc : cond.holds s.flags = false) : exec (Form.callIf cond a16) s = .next (s.setPc (s.pc + 3)) := by
  simp [exec_callIf, callOn, nextPc_of_fits h, hc]

theorem exec_ret_of_fits {s : State} (h : Fits s 1) : exec .ret s = outcome (returnTo s) := by
  rw [exec_ret, execRet, nextPc_of_fits h, except_ok_bind]

theorem exec_returnIf_taken {cond : Cond} {s : State} (h : Fits s 1) (hc : cond.holds s.flags = true) :
    exec (Form.returnIf cond) s = outcome (returnTo s) := by
  rw [exec_returnIf, returnOn, nextPc_of_fits h, except_ok_bind, if_pos hc]

theorem exec_returnIf_not_taken {cond : Cond} {s : State} (h : Fits s 1) (hc : cond.holds s.flags = false) :
    exec (Form.returnIf cond) s = .next (s.setPc (s.pc + 1)) := by
  simp [exec_returnIf, returnOn, nextPc_of_fits h, hc]

theorem exec_rst_of_fits {n : Fin 8} {s : State} (h : Fits s 1) :
    exec (Form.rst n) s = outcome (callTo (BitVec.ofNat 16 (n * 8)) (s.pc + 1) s) := by
  have hn : (n : Nat) % 256 = n := Nat.mod_eq_of_lt (by omega)
  simp [exec_rst, restart, nextPc_of_fits h, vectorAddr_eq, hn]

/-! The statements. -/

/-- Settles O27: `next` is formed first, then the call pushes it; a call not taken goes on. -/
theorem callsPushTheReturnAddress : Obligations.CallsPushTheReturnAddress := fun a16 s =>
  ⟨coded_call a16, wrapFaults_of_nextPc (coded_call a16).length_eq (exec_call a16 s),
    fun h => ⟨next_of_callTo (exec_call_of_fits h), pushFaults_of_callTo (exec_call_of_fits h)⟩,
    fun cond => ⟨coded_callIf cond a16,
      wrapFaults_of_nextPc (coded_callIf cond a16).length_eq (exec_callIf cond a16 s),
      fun h hc => ⟨next_of_callTo (exec_callIf_taken h hc), pushFaults_of_callTo (exec_callIf_taken h hc)⟩,
      fun h hc => next_of_goOn (exec_callIf_not_taken h hc)⟩⟩

/-- Settles O28: `next` is formed first, then the return pops PC; a return not taken goes on. -/
theorem returnsPopThePc : Obligations.ReturnsPopThePc := fun s =>
  ⟨coded_ret, wrapFaults_of_nextPc coded_ret.length_eq (exec_ret s),
    fun h => ⟨next_of_returnTo (exec_ret_of_fits h), popFaults_of_returnTo (exec_ret_of_fits h)⟩,
    fun cond => ⟨coded_returnIf cond, wrapFaults_of_nextPc (coded_returnIf cond).length_eq (exec_returnIf cond s),
      fun h hc => ⟨next_of_returnTo (exec_returnIf_taken h hc), popFaults_of_returnTo (exec_returnIf_taken h hc)⟩,
      fun h hc => next_of_goOn (exec_returnIf_not_taken h hc)⟩⟩

/-- Settles O29: a restart is the call of its vector. -/
theorem rstCallsItsVector : Obligations.RstCallsItsVector := fun n s =>
  ⟨coded_rst n, wrapFaults_of_nextPc (coded_rst n).length_eq (exec_rst n s),
    fun h => next_of_callTo (exec_rst_of_fits h), fun h => pushFaults_of_callTo (exec_rst_of_fits h)⟩

end Sys2Proof.Machine
end

section
/-! PROOFS. 44_stack_io_control.md R230, R231, R233 and R236, and 45_undocumented.md R260: PUSH, POP PSW, IN and the
fallback of the undocumented slots. -/

namespace Sys2Proof.Machine

open Sys2Proof.Safety

/-! The bytes and the cost of each form (30_encoding.md R94, R101; 70_reset_and_hazards.md R325). -/

theorem coded_push (p : StackPair) : Coded (Form.push p) [0b11#2 ++ p.pair.code ++ 0b0101#4] 11 := by
  cases p <;> exact coded_of_encode rfl rfl rfl

theorem coded_pushPsw : Coded .pushPsw [0b11110101#8] 11 := coded_of_encode rfl rfl rfl

theorem coded_popPsw : Coded .popPsw [0b11110001#8] 10 := coded_of_encode rfl rfl rfl

theorem coded_inPort (port : Byte) : Coded (.inPort port) [0b11011011#8, port] 10 := coded_of_encode rfl rfl rfl

theorem coded_undocumented {i : Instr} {op : Byte} (h : (i, op) ∈ Form.undocumented) : Coded i [op] 4 := by
  have slots : ∀ slot ∈ Form.undocumented, Coded slot.1 [slot.2] 4 := by
    unfold Form.undocumented
    repeat' refine List.forall_mem_cons.2 ⟨coded_of_encode rfl rfl rfl, ?_⟩
    exact List.forall_mem_nil _
  exact slots _ h

/-! PUSH. -/

/-- A push of a value acts as a call of the next instruction that pushes the value. -/
theorem pushValue_of_fits {v : Word} {s : State} (h : Fits s 1) :
    pushValue v s = outcome (callTo (s.pc + 1) v s) := by
  simp [pushValue, callTo, nextPc_of_fits h]

/-- A meaning that pushes `high` and `low` and goes on. -/
theorem next_of_pushValue {i : Instr} {high low : Byte} {s : State} (he : exec i s = pushValue (wordOf high low) s)
    (h : Fits s 1) (hp : PushFits s) :
    ∃ t, exec i s = .next t ∧ t.pc = s.pc + 1 ∧ t.sp = s.sp - 2 ∧ t.readByte (s.sp - 1) = high ∧
      t.readByte (s.sp - 2) = low ∧ t.flags = s.flags ∧ Frame [] [s.sp - 2, s.sp - 1] s t := by
  obtain ⟨t, ht, hpc, hsp, hlow, hhigh, hrest⟩ := next_of_callTo (he.trans (pushValue_of_fits h)) hp
  exact ⟨t, ht, hpc, hsp, hhigh.trans (hiByte_wordOf high low), hlow.trans (loByte_wordOf high low), hrest⟩

theorem pushFaults_of_pushValue {i : Instr} {v : Word} {s : State} (he : exec i s = pushValue v s) (h : Fits s 1) :
    PushFaults i s := pushFaults_of_callTo (he.trans (pushValue_of_fits h))

theorem exec_push_halves (p : StackPair) (s : State) :
    exec (Form.push p) s = pushValue (wordOf (s.reg p.halves.1) (s.reg p.halves.2)) s := by
  cases p <;> rfl

/-- Settles O30: `next` is formed first, then the word of the two bytes is pushed. -/
theorem pushStoresAPair : Obligations.PushStoresAPair := by
  intro s Pushed
  refine ⟨fun p => ⟨coded_push p, wrapFaults_of_nextPc (coded_push p).length_eq (exec_push p s), fun h =>
      ⟨next_of_pushValue (exec_push_halves p s) h, pushFaults_of_pushValue (exec_push_halves p s) h⟩⟩,
    coded_pushPsw, wrapFaults_of_nextPc coded_pushPsw.length_eq (exec_pushPsw s), fun h => ⟨?_, ?_⟩⟩
  · have hpack : BitVec.ofNat 8 (128 * s.flags.s.toNat + 64 * s.flags.z.toNat + 16 * s.flags.ac.toNat +
        4 * s.flags.p.toNat + 2 + s.flags.cy.toNat) = s.flags.pack := by
      rw [← Flags.toNat_pack, BitVec.ofNat_toNat, BitVec.setWidth_eq]
    rw [hpack]
    exact next_of_pushValue (exec_pushPsw s) h
  · exact pushFaults_of_pushValue (exec_pushPsw s) h

/-! POP PSW. -/

/-- POP PSW where `next` and SP + 2 can be formed. -/
theorem exec_popPsw_of_fits {s : State} (h : Fits s 1) (hp : PopFits s) :
    exec .popPsw s = .next ((((s.setSp (s.sp + 2)).setReg .a (s.readByte (s.sp + 1))).setFlags
      (Flags.unpack (s.readByte s.sp))).setPc (s.pc + 1)) := by
  simp [exec_popPsw, execPopPsw, nextPc_of_fits h, pop16_of_fits hp]

theorem popFaults_popPsw {s : State} (h : Fits s 1) : PopFaults .popPsw s := by
  intro hp
  simp [exec_popPsw, execPopPsw, nextPc_of_fits h, pop16_of_not_fits hp]

/-- Settles O32: `next` is formed first, then the pop writes SP, A and the flags. -/
theorem popPswLoadsAccumulatorAndFlags : Obligations.PopPswLoadsAccumulatorAndFlags := fun s =>
  ⟨coded_popPsw, wrapFaults_of_nextPc coded_popPsw.length_eq (exec_popPsw s),
    fun h hp => ⟨_, exec_popPsw_of_fits h hp, rfl, rfl, rfl, rfl, rfl, rfl, rfl, rfl,
      (Frame.self.setSp.setReg (.head _)).setFlags.setPc⟩,
    popFaults_popPsw⟩

/-! IN. -/

/-- The state after one call of the input handler for `port` (20_memory.md R71). -/
def State.input (s : State) (port : Byte) : State :=
  { s with inDraws := s.inDraws + 1 }.emit (.input port (Config.inputByte s.inDraws port))

theorem portIn_of_handler {pc0 : Word} {s : State} {port : Byte} (h : s.inHandler = true) :
    portIn pc0 s port = .ok (Config.inputByte s.inDraws port, s.input port) := if_pos h

theorem portIn_of_no_handler {pc0 : Word} {s : State} {port : Byte} (h : s.inHandler = false) :
    portIn pc0 s port = .error (.missingHandler pc0 port) := if_neg (ne_true_of_eq_false h)

/-- IN with a handler, where `next` can be formed. -/
theorem exec_inPort_of_handler {port : Byte} {s : State} (h : Fits s 2) (hin : s.inHandler = true) :
    exec (.inPort port) s =
      .next (((s.input port).setReg .a (Config.inputByte s.inDraws port)).setPc (s.pc + 2)) := by
  simp [exec_inPort, execInPort, nextPc_of_fits h, portIn_of_handler hin]

theorem exec_inPort_of_no_handler {port : Byte} {s : State} (h : Fits s 2) (hin : s.inHandler = false) :
    exec (.inPort port) s = .fault (.missingHandler s.pc port) := by
  simp [exec_inPort, execInPort, nextPc_of_fits h, portIn_of_no_handler hin]

/-- Settles O34: `next` is formed first, then one call of the handler writes A, the count of draws and the trace. -/
theorem inReadsTheHandler : Obligations.InReadsTheHandler := by
  intro port s
  refine ⟨coded_inPort port, wrapFaults_of_nextPc (coded_inPort port).length_eq (exec_inPort port s),
    fun h hin => ?_, exec_inPort_of_no_handler⟩
  exact ⟨_, exec_inPort_of_handler h hin, rfl, rfl, rfl, rfl, rfl, rfl, rfl, rfl, rfl,
    keepsRegs_setPc.2 (keepsRegs_setReg (.head _) fun _ _ => rfl), fun _ _ => rfl, ⟨rfl, rfl, rfl⟩, rfl, rfl, rfl, rfl⟩

/-! The undocumented slots. -/

/-- Settles O38: the fallback adds one event to the trace and goes on. -/
theorem undocumentedSlotsFallBack : Obligations.UndocumentedSlotsFallBack := fun _ op s hi =>
  ⟨coded_undocumented hi, (coded_undocumented hi).wrapFaults (exec_undocumented hi s),
    fun h => next_of_complete (t := s.emit (.undocumented s.pc op)) (exec_undocumented hi s) h
      ⟨rfl, rfl, rfl, fun _ _ => rfl, fun _ _ => rfl, ⟨rfl, rfl, rfl⟩, ⟨rfl, rfl, rfl, rfl⟩, rfl, rfl, rfl, rfl,
        rfl⟩⟩

end Sys2Proof.Machine
end

section
/-! PROOFS. 60_exceptions.md R281 to R286 and 44_stack_io_control.md R240: interrupt entry, by `raiseInterrupt` and by
EI, and the return from it. -/

namespace Sys2Proof.Machine

open Sys2Proof.Safety

@[simp] theorem State.entered_lastop (s : State) (id : Byte) : (s.entered id).lastop = s.lastop := by
  simp [State.entered]
@[simp] theorem State.entered_faultRec (s : State) (id : Byte) : (s.entered id).faultRec = s.faultRec := by
  simp [State.entered]
@[simp] theorem State.entered_flags (s : State) (id : Byte) : (s.entered id).flags = s.flags := by
  simp [State.entered]

/-- What an interrupt entry leaves: the return address below SP, and nothing else of the machine but PC, IE, HALT and
the budget (R282). -/
theorem entered_spec {s t : State} {id : Byte} (ht : t = s.entered id) :
    t.pc = BitVec.ofNat 16 (id.toNat * 8) ∧ t.ie = false ∧ t.halt = false ∧ t.pend = s.pend ∧ t.sp = s.sp - 2 ∧
    t.readByte (s.sp - 2) = s.pc.extractLsb' 0 8 ∧ t.readByte (s.sp - 1) = s.pc.extractLsb' 8 8 ∧
    t.budget = s.budget - 11 ∧ t.lastop = s.lastop ∧ t.params = s.params ∧ t.faultRec = s.faultRec ∧
    t.flags = s.flags ∧ KeepsRegs [] s t ∧ KeepsMemory [s.sp - 2, s.sp - 1] s t ∧ KeepsIo s t := by
  subst ht
  obtain ⟨hregs, hmem, -, -, hio⟩ := frame_pushed s s.pc
  exact ⟨vectorAddr_eq id, rfl, rfl, State.entered_pend s id, rfl, State.readByte_pushed_low s s.pc (s.sp - 2),
    State.readByte_pushed_high s s.pc (s.sp - 2), rfl, State.entered_lastop s id, State.entered_params s id,
    State.entered_faultRec s id, State.entered_flags s id, hregs, hmem, hio⟩

theorem vectorIdOk_of_lt {id : Nat} (h : id < 8) : vectorIdOk id = true := decide_eq_true h

/-- `raiseInterrupt` with interrupts enabled is the entry with its id (R281). -/
theorem raiseInterrupt_of_enabled {id : Nat} {s : State} (hid : id < 8) (hie : s.ie = true) :
    raiseInterrupt id s = outcome (enterInterrupt s.pc (BitVec.ofNat 8 id) s) := by
  rw [raiseInterrupt, if_pos (vectorIdOk_of_lt hid), if_pos hie]

theorem toNat_vectorId {id : Nat} (hid : id < 8) : (BitVec.ofNat 8 id).toNat = id :=
  BitVec.toNat_ofNat id 8 ▸ Nat.mod_eq_of_lt (by omega)

/-- Settles O42: the entry pushes PC, or faults on the stack before it writes anything. -/
theorem raiseInterruptEnters : Obligations.RaiseInterruptEnters := by
  intro id s hid hie
  rw [raiseInterrupt_of_enabled hid hie]
  refine ⟨fun h => ⟨s.entered (BitVec.ofNat 8 id), congrArg outcome (enterInterrupt_of_fits h), ?_⟩,
    fun h => congrArg outcome (enterInterrupt_of_not_fits h)⟩
  have hspec := entered_spec (s := s) (id := BitVec.ofNat 8 id) rfl
  rwa [toNat_vectorId hid] at hspec

/-- An id from 0 to 7 fills the low bits of a deferred request (10_state.md R37). -/
theorem deferred_eq_add {id : Nat} (hid : id < 8) : 0x80 ||| BitVec.ofNat 8 id = BitVec.ofNat 8 (128 + id) := by
  interval_cases id <;> rfl

/-- Settles O43: the two guards of `raiseInterrupt`, the id and IE. -/
theorem raiseInterruptDefersOrRefuses : Obligations.RaiseInterruptDefersOrRefuses := by
  intro id s
  refine ⟨fun hid hie => ?_, fun hid => ?_⟩
  · rw [raiseInterrupt, if_pos (vectorIdOk_of_lt hid), if_neg (ne_true_of_eq_false hie), deferred_eq_add hid]
  · exact if_neg fun h => absurd (of_decide_eq_true h) (by omega)

/-- A vector lies below the top of memory, so the address after a RET there can be formed. -/
theorem fits_vector {id : Nat} {t : State} (hid : id < 8) (h : t.pc = BitVec.ofNat 16 (id * 8)) : Fits t 1 := by
  have hpc : t.pc.toNat = id * 8 := by rw [h, BitVec.toNat_ofNat]; omega
  exact .inr (by omega)

/-- Settles O44: the entry leaves the interrupted address at its SP, where RET pops it. -/
theorem interruptThenRetReturns : Obligations.InterruptThenRetReturns := by
  intro id s t hid hie h
  rw [raiseInterrupt_of_enabled hid hie] at h
  obtain ⟨hpush, rfl⟩ := enterInterrupt_eq_ok.1 (outcome_eq_next.1 h)
  obtain ⟨hpc, hie, -, -, hsp, hlow, hhigh, -, -, hparams, -, hflags, -⟩ :=
    entered_spec (s := s) (id := BitVec.ofNat 8 id) rfl
  rw [toNat_vectorId hid] at hpc
  obtain ⟨u, hu, hupc, husp, huflags, -, -, ⟨huie, -⟩, -⟩ :=
    next_of_returnTo (exec_ret_of_fits (fits_vector hid hpc)) (popFits_of_pushFits hpush hparams hsp)
  refine ⟨u, hu, ?_, ?_, huie.trans hie, huflags.trans hflags⟩
  · rw [hupc, hsp, succ_sp_sub_two, hlow, hhigh]
    exact wordOf_hiByte_loByte s.pc
  · rw [husp, hsp, BitVec.sub_add_cancel]

/-! EI. -/

theorem coded_ei : Coded .ei [0b11111011#8] 4 := coded_of_encode rfl rfl rfl

/-- EI with nothing pending, where `next` can be formed. -/
theorem exec_ei_of_empty {s : State} (h : Fits s 1) (hp : s.pend.getLsbD 7 = false) :
    exec .ei s = .next { s with ie := true, pc := s.pc + 1 } := by
  rw [exec_ei, execEi, nextPc_of_fits h, except_ok_bind, if_neg (ne_true_of_eq_false hp)]; rfl

/-- The state in which EI enters the pending request: PEND cleared, PC on the instruction after EI. -/
def State.acknowledged (s : State) : State := { s with ie := true, pc := s.pc + 1, pend := 0 }

/-- EI with a request pending, where `next` can be formed, is the entry from the address after it (90_conflicts.md
C5). -/
theorem exec_ei_of_pending {s : State} (h : Fits s 1) (hp : s.pend.getLsbD 7 = true) :
    exec .ei s = outcome (enterInterrupt s.pc (s.pend &&& 0x7F) s.acknowledged) := by
  rw [exec_ei, execEi, nextPc_of_fits h, except_ok_bind, if_pos hp]; rfl

/-- The id of a deferred request is the low seven bits of PEND (10_state.md R37). -/
theorem toNat_pendingId (pend : Byte) : (pend &&& 0x7F).toNat = pend.toNat % 128 := by
  rw [BitVec.toNat_and]; exact Nat.and_two_pow_sub_one_eq_mod _ 7

/-- Settles O36: EI sets IE, then enters the pending request, if there is one, from the address after EI. -/
theorem eiEnablesAndDelivers : Obligations.EiEnablesAndDelivers := by
  intro s
  refine ⟨coded_ei, wrapFaults_of_nextPc coded_ei.length_eq (exec_ei s), fun h hp => ?_, fun h hp hpush => ?_,
    fun h hp hpush => ?_⟩
  · exact ⟨_, exec_ei_of_empty h hp, rfl, rfl, rfl, rfl, rfl, rfl, fun _ _ => rfl, fun _ _ => rfl,
      ⟨rfl, rfl, rfl, rfl⟩, rfl, rfl, rfl, rfl, rfl⟩
  · have hfits : PushFits s.acknowledged := hpush
    have hnext := (exec_ei_of_pending h hp).trans (congrArg outcome (enterInterrupt_of_fits hfits))
    obtain ⟨hpc, hie, hhalt, hpend, hrest⟩ :=
      entered_spec (s := s.acknowledged) (id := s.pend &&& 0x7F) rfl
    rw [toNat_pendingId] at hpc
    exact ⟨_, hnext, hpc, hie, hpend, hhalt, hrest⟩
  · have hfits : ¬ PushFits s.acknowledged := hpush
    exact (exec_ei_of_pending h hp).trans (congrArg outcome (enterInterrupt_of_not_fits hfits))

end Sys2Proof.Machine
end

section
/-! PROOFS. 30_encoding.md R100, 20_memory.md R64 and 44_stack_io_control.md R249: the fetch, by the length of the
opcode byte, and the step around it. -/

namespace Sys2Proof.Machine

open Sys2Proof.Safety

theorem fetch_of_length_one {s : State} (h : lengthOf s.opcodeByte = 1) : fetch s = .ok (instrOf s.opcodeByte 0 0) := by
  simp only [fetch, h]

theorem fetch_of_length_two {s : State} (h : lengthOf s.opcodeByte = 2) :
    fetch s = formAddr s.pc s (s.pc.toNat + 1) >>= fun second => .ok (instrOf s.opcodeByte (s.readByte second) 0) := by
  rw [fetch, h]; rfl

theorem fetch_of_length_three {s : State} (h : lengthOf s.opcodeByte = 3) :
    fetch s = formAddr s.pc s (s.pc.toNat + 1) >>= fun second => formAddr s.pc s (s.pc.toNat + 2) >>= fun third =>
      .ok (instrOf s.opcodeByte 0 (wordOf (s.readByte third) (s.readByte second))) := by
  rw [fetch, h]; rfl

/-- An address below one that can be formed can be formed too. -/
theorem addressable_of_le {policy : WrapPolicy} {a b : Int} (h : Addressable policy b) (h0 : 0 ≤ a) (hab : a ≤ b) :
    Addressable policy a := by
  obtain hwrap | ⟨-, hb⟩ := h
  · exact .inl hwrap
  · exact .inr ⟨h0, hab.trans hb⟩

/-- The fetch where the last operand byte can be reached agrees with the decoder on the three bytes at PC. -/
theorem fetch_of_decode {s : State} {i : Instr} {rest : List Byte}
    (hd : decode [s.readByte s.pc, s.readByte (s.pc + 1), s.readByte (s.pc + 2)] = .ok (i, rest))
    (ha : Addressable s.params.wrapPolicy ((s.pc.toNat : Int) + lengthOf s.opcodeByte - 1)) : fetch s = .ok i := by
  have hsecond : BitVec.ofInt 16 ((s.pc.toNat : Int) + 1) = s.pc + 1 := ofInt_add s.pc 1
  have hthird : BitVec.ofInt 16 ((s.pc.toNat : Int) + 2) = s.pc + 2 := ofInt_add s.pc 2
  rcases lengthOf_cases s.opcodeByte with hlen | hlen | hlen
  · cases (decode_of_length_one _ hlen).symm.trans hd
    exact fetch_of_length_one hlen
  · cases (decode_of_length_two _ _ hlen).symm.trans hd
    have h1 := addressable_of_le (a := s.pc.toNat + 1) ha (by omega) (by omega)
    rw [fetch_of_length_two hlen, formAddr_of_addressable h1, hsecond]; rfl
  · cases (decode_of_length_three _ _ _ hlen).symm.trans hd
    have h1 := addressable_of_le (a := s.pc.toNat + 1) ha (by omega) (by omega)
    have h2 := addressable_of_le (a := s.pc.toNat + 2) ha (by omega) (by omega)
    rw [fetch_of_length_three hlen, formAddr_of_addressable h1, hsecond, except_ok_bind, formAddr_of_addressable h2,
      hthird]; rfl

/-- A step whose fetch answers runs the instruction and charges the opcode byte (70_reset_and_hazards.md R320). -/
theorem step_of_fetch {s : State} {i : Instr} (hrec : s.faultRec = none) (hhalt : s.halt = false)
    (h : fetch s = .ok i) : step s = match exec i { s with lastop := s.readByte s.pc } with
      | .next t => .next { t with budget := t.budget - s.params.cycleCost (s.readByte s.pc) }
      | .fault f => .fault f
      | .refused r => .refused r := by
  rw [step, startStep_of_running hrec hhalt, h]; rfl

theorem step_of_fetch_fault {s : State} {f : Fault} (hrec : s.faultRec = none) (hhalt : s.halt = false)
    (h : fetch s = .error f) : step s = .fault f :=
  step_eq_fault.2 (.inr ⟨hrec, hhalt, .inl h⟩)

theorem bytesOf_eq_cons (op d8 : Byte) (d16 : Word) : ∃ operands, bytesOf op d8 d16 = op :: operands := by
  unfold bytesOf
  split
  · exact ⟨_, rfl⟩
  · exact ⟨_, rfl⟩
  · exact ⟨_, rfl⟩

/-- The decoder answers an instruction of the first byte. -/
theorem opcode_of_decode {op : Byte} {tail rest : List Byte} {i : Instr} (h : decode (op :: tail) = .ok (i, rest)) :
    i.opcode = op := by
  obtain ⟨op', d8, d16, rfl, hbytes⟩ := decode_eq_ok h
  obtain ⟨operands, hop⟩ := bytesOf_eq_cons op' d8 d16
  rw [hop] at hbytes
  rw [opcode_instrOf, (List.cons.inj hbytes).1]

/-- Settles O39: the decoder gives an instruction of the opcode byte at PC, so the fetch reaches its bytes and
agrees. -/
theorem stepRunsTheDecodedInstruction : Obligations.StepRunsTheDecodedInstruction := by
  intro s i rest hrec hhalt hd ha
  rw [Instr.length, opcode_of_decode hd] at ha
  exact step_of_fetch hrec hhalt (fetch_of_decode hd ha)

/-- Where an address can be formed and the next cannot, the next is 0x10000. -/
theorem formAddr_past_top {pc0 : Word} {s : State} {z : Int} (hz : Addressable s.params.wrapPolicy z)
    (h : ¬ Addressable s.params.wrapPolicy (z + 1)) : formAddr pc0 s (z + 1) = .error (.addressWrap pc0 0x10000) := by
  have htop : z + 1 = 0x10000 := by
    rw [Addressable, not_or] at h
    obtain ⟨hpolicy, hrange⟩ := h
    have := hz.resolve_left hpolicy
    omega
  rw [formAddr_of_not h, htop]

/-- The first operand address that cannot be formed is 0x10000. -/
theorem fetch_past_top {s : State}
    (h : ¬ Addressable s.params.wrapPolicy ((s.pc.toNat : Int) + lengthOf s.opcodeByte - 1)) :
    fetch s = .error (.addressWrap s.pc 0x10000) := by
  have hlt := s.pc.isLt
  have hpc : Addressable s.params.wrapPolicy s.pc.toNat := .inr (by omega)
  have hone : (s.pc.toNat : Int) + (1 : Nat) - 1 = s.pc.toNat := by omega
  have htwo : (s.pc.toNat : Int) + (2 : Nat) - 1 = s.pc.toNat + 1 := by omega
  have hthree : (s.pc.toNat : Int) + (3 : Nat) - 1 = s.pc.toNat + 1 + 1 := by omega
  rcases lengthOf_cases s.opcodeByte with hlen | hlen | hlen
  · rw [hlen, hone] at h
    exact absurd hpc h
  · rw [hlen, htwo] at h
    rw [fetch_of_length_two hlen, formAddr_past_top hpc h]; rfl
  · rw [hlen, hthree] at h
    rw [fetch_of_length_three hlen]
    by_cases hsecond : Addressable s.params.wrapPolicy ((s.pc.toNat : Int) + 1)
    · rw [formAddr_of_addressable hsecond, except_ok_bind, show (s.pc.toNat : Int) + 2 = s.pc.toNat + 1 + 1 by omega,
        formAddr_past_top hsecond h]; rfl
    · rw [formAddr_past_top hpc hsecond]; rfl

/-- Settles O40: the fetch faults before the instruction runs. -/
theorem operandPastTheTopFaults : Obligations.OperandPastTheTopFaults := fun _ hrec hhalt h =>
  step_of_fetch_fault hrec hhalt (fetch_past_top h)

/-- A halted step is the idle iteration (R249). -/
theorem step_of_halt {s : State} (hrec : s.faultRec = none) (hhalt : s.halt = true) :
    step s = .next (s.charge s.params.idleCost) :=
  step_eq_next.2 ⟨hrec, .inl ⟨hhalt, rfl⟩⟩

/-- Settles O41: the idle iteration charges the budget alone. -/
theorem haltedStepIdles : Obligations.HaltedStepIdles := ⟨rfl, fun _ => step_of_halt⟩

end Sys2Proof.Machine
end

section
/-! PROOFS. 70_reset_and_hazards.md R320 and R323 to R325, 60_exceptions.md R300: what an `update` that answers has
run, and the two whose answer is known: the halted one and the one of a single cycle. -/

namespace Sys2Proof.Machine

/-- The loop that answers a count has run to the first step that spent the budget (R320). -/
theorem updateLoop_consumed {n cycles : Int} {fuel : Nat} {s t : State} (hpos : 0 < s.budget)
    (h : updateLoop n fuel s = .next (t, .consumed cycles)) : cycles = n - t.budget ∧ t.budget ≤ 0 ∧
    ∃ k, core.run (k + 1) s = .next t ∧ ∀ j, j ≤ k → ∃ u : State, core.run j s = .next u ∧ 0 < u.budget := by
  induction fuel generalizing s with
  | zero => cases h
  | succ fuel ih =>
    obtain ⟨u, hu⟩ | ⟨f, hf⟩ := step_next_or_fault s
    · by_cases hspent : u.budget ≤ 0
      · cases (updateLoop_of_spent hu hspent).symm.trans h
        refine ⟨rfl, hspent, 0, core_run_next hu, fun j hj => ?_⟩
        obtain rfl := Nat.le_zero.1 hj
        exact ⟨s, rfl, hpos⟩
      · have hleft : 0 < u.budget := by omega
        obtain ⟨hcycles, ht, k, hrun, hbefore⟩ := ih hleft ((updateLoop_of_left hu hleft).symm.trans h)
        refine ⟨hcycles, ht, k + 1, (core_run_next hu).trans hrun, fun j hj => ?_⟩
        cases j with
        | zero => exact ⟨s, rfl, hpos⟩
        | succ j => rw [core_run_next hu]; exact hbefore j (by omega)
    · cases (updateLoop_of_fault hf).symm.trans h

theorem update_of_fault {n : Int} {s : State} {f : Fault} (hn : 0 < n) (h : s.faultRec = some f) :
    update n s = .next (s, .faulted f) := by
  rw [update, h]; exact if_pos (decide_eq_true hn)

/-- Settles O49: an update of a faulted machine answers no count, so the loop has run. -/
theorem updateStepsUntilTheBudgetIsSpent : Obligations.UpdateStepsUntilTheBudgetIsSpent := by
  intro n cycles s t hn h
  obtain hrec | ⟨f, hrec⟩ := Option.eq_none_or_eq_some s.faultRec
  · rw [update_of_pos hn hrec] at h
    exact updateLoop_consumed (s := { s with budget := n }) hn h
  · cases (update_of_fault hn hrec).symm.trans h

/-- The loop that answers a fault has run to the step that faulted (R323). -/
theorem updateLoop_faulted {n : Int} {fuel : Nat} {s t : State} {f : Fault}
    (h : updateLoop n fuel s = .next (t, .faulted f)) :
    ∃ (k : Nat) (u : State), core.run k s = .next u ∧ step u = .fault f ∧ t = u.stopWith f := by
  induction fuel generalizing s with
  | zero => cases h
  | succ fuel ih =>
    obtain ⟨u, hu⟩ | ⟨g, hg⟩ := step_next_or_fault s
    · by_cases hspent : u.budget ≤ 0
      · cases (updateLoop_of_spent hu hspent).symm.trans h
      · obtain ⟨k, v, hrun, hstop, ht⟩ := ih ((updateLoop_of_left hu (by omega)).symm.trans h)
        exact ⟨k + 1, v, (core_run_next hu).trans hrun, hstop, ht⟩
    · cases (updateLoop_of_fault hg).symm.trans h
      exact ⟨0, s, rfl, hg, rfl⟩

/-- Settles O53: the faulting step leaves the record, which stops every later step and update. -/
theorem faultEndsTheUpdate : Obligations.FaultEndsTheUpdate := by
  intro n s t f hn hrec h
  rw [update_of_pos hn hrec] at h
  obtain ⟨k, u, hrun, hstop, rfl⟩ := updateLoop_faulted h
  exact ⟨⟨k, u, hrun, hstop, rfl⟩, step_eq_fault.2 (.inl rfl), fun m hm => update_of_fault hm rfl⟩

/-- A budget rounded up to a multiple of the idle cost (R324). -/
def roundedUp (budget : Int) (cost : Nat) : Int := cost * ((budget + cost - 1) / cost)

/-- A budget of at most one idle cost lasts for one iteration. -/
theorem roundedUp_of_le {b : Int} {cost : Nat} (hb : 0 < b) (hc : b ≤ cost) : roundedUp b cost = cost := by
  have hone : (b + cost - 1) / cost = 1 := by
    rw [Int.ediv_eq_iff_of_pos (by omega)]; omega
  rw [roundedUp, hone, mul_one]

/-- A budget lasts for one iteration more than what the first leaves of it. -/
theorem roundedUp_eq_add (b : Int) {cost : Nat} (hc : 0 < cost) :
    roundedUp b cost = cost + roundedUp (b - cost) cost := by
  have hne : (cost : Int) ≠ 0 := by omega
  have hmore : (b + cost - 1) / cost = (b - cost + cost - 1) / cost + 1 := by
    rw [sub_add_cancel, add_sub_right_comm, Int.add_ediv_of_dvd_right dvd_rfl, Int.ediv_self hne]
  rw [roundedUp, roundedUp, hmore]; ring

/-- A halted loop takes the idle cost off the budget until it is spent. -/
theorem updateLoop_halted {n left : Int} {fuel : Nat} {s : State} (hrec : s.faultRec = none) (hhalt : s.halt = true)
    (hcost : 0 < s.params.idleCost) (hpos : 0 < s.budget) (hfuel : s.budget ≤ fuel)
    (hleft : left = s.budget - roundedUp s.budget s.params.idleCost) :
    updateLoop n fuel s = .next ({ s with budget := left }, .consumed (n - left)) := by
  induction fuel generalizing s with
  | zero => omega
  | succ fuel ih =>
    have hstep := step_of_halt hrec hhalt
    have hbudget := State.charge_budget s s.params.idleCost
    by_cases hspent : s.budget ≤ s.params.idleCost
    · rw [roundedUp_of_le hpos hspent] at hleft
      subst hleft
      have hdone : (s.charge s.params.idleCost).budget ≤ 0 := by omega
      exact updateLoop_of_spent hstep hdone
    · rw [roundedUp_eq_add _ hcost] at hleft
      have hpos' : 0 < (s.charge s.params.idleCost).budget := by omega
      refine (updateLoop_of_left hstep hpos').trans (ih hrec hhalt hcost hpos' (by omega) ?_)
      rw [State.charge_budget, State.charge_params]; omega

/-- Settles O52: the loop starts with the budget n, and takes n rounded up off it. -/
theorem haltedUpdateIdles : Obligations.HaltedUpdateIdles := by
  refine ⟨rfl, fun n s hn hrec hhalt hcost => ?_⟩
  have hloop := updateLoop_halted (n := n) (s := { s with budget := n }) hrec hhalt hcost hn (Int.self_le_toNat n) rfl
  rw [sub_sub_cancel] at hloop
  exact (update_of_pos hn hrec).trans hloop

/-- The bounds of the default table (R325). -/
theorem defaultParams_cycleCost (op : Byte) : 4 ≤ defaultParams.cycleCost op ∧ defaultParams.cycleCost op ≤ 18 := by
  revert op; decide +kernel

/-- Settles O54: a step takes at least 1 off the budget, so a budget of 1 is spent by the first step. -/
theorem updateOneRunsOneStep : Obligations.UpdateOneRunsOneStep := by
  refine ⟨defaultParams_cycleCost, fun s t hwf hrec h => ?_⟩
  obtain ⟨-, hless, -⟩ := step_charge_of_wf (s := { s with budget := 1 }) hwf h
  rw [update_of_pos (by decide) hrec]
  exact updateLoop_of_spent h (Int.le_of_lt_add_one hless)

end Sys2Proof.Machine
end

section
/-! PROOF SUPPORT. What an instruction may write (10_state.md R25, R35 to R38, R41, R45; 20_memory.md R69), as one
relation between a state and the next: it holds of a state and itself, and through each update that the instruction
may make. -/

namespace Sys2Proof.Machine

open Sys2Proof.Safety

/-- `t` differs from `s` only where the tables of writers let `i` write. -/
structure WritesOwn (i : Instr) (s t : State) : Prop where
  szap : writesSzap i.opcode = false → KeepsSzap s t
  cy : writesCy i.opcode = false → t.flags.cy = s.flags.cy
  reg : ∀ r, writesReg r i.opcode = false → t.reg r = s.reg r
  sp : writesSp i.opcode = false → t.sp = s.sp
  ie : i ≠ .ei → i ≠ .di → t.ie = s.ie
  pend : i ≠ .ei → t.pend = s.pend
  budget : i ≠ .ei → t.budget = s.budget
  halt : i ≠ .ei → i ≠ .hlt → t.halt = s.halt
  ports : (∀ port, i ≠ .outPort port) → t.ports = s.ports
  mem : writesMemory i.opcode = false → t.mem = s.mem
  lastop : t.lastop = s.lastop
  params : t.params = s.params
  inHandler : t.inHandler = s.inHandler
  outHandler : t.outHandler = s.outHandler
  faultRec : t.faultRec = s.faultRec

namespace WritesOwn

variable {i : Instr} {s t : State}

theorem self : WritesOwn i s s where
  szap _ := ⟨rfl, rfl, rfl, rfl⟩
  cy _ := rfl
  reg _ _ := rfl
  sp _ := rfl
  ie _ _ := rfl
  pend _ := rfl
  budget _ := rfl
  halt _ _ := rfl
  ports _ := rfl
  mem _ := rfl
  lastop := rfl
  params := rfl
  inHandler := rfl
  outHandler := rfl
  faultRec := rfl

/-- Every instruction writes PC. -/
theorem setPc {v : Word} (h : WritesOwn i s t) : WritesOwn i s (t.setPc v) := { h with }

theorem setSp {v : Word} (h : WritesOwn i s t) (hsp : writesSp i.opcode = true) : WritesOwn i s (t.setSp v) :=
  { h with sp := fun hno => nomatch hsp.symm.trans hno }

theorem setReg {r : Reg} {v : Byte} (h : WritesOwn i s t) (hr : writesReg r i.opcode = true) :
    WritesOwn i s (t.setReg r v) := by
  have hreg : ∀ q, writesReg q i.opcode = false → (t.setReg r v).reg q = s.reg q := fun q hq =>
    (State.reg_setReg_of_ne t v (by rintro rfl; exact nomatch hr.symm.trans hq)).trans (h.reg q hq)
  cases r <;> exact { h with reg := hreg }

theorem setPair {p : Pair} {v : Word} (h : WritesOwn i s t) (hregs : ∀ r ∈ p.regs, writesReg r i.opcode = true)
    (hsp : p = .sp → writesSp i.opcode = true) : WritesOwn i s (t.setPair p v) := by
  cases p with
  | bc | de | hl => exact (h.setReg (hregs _ (.head _))).setReg (hregs _ (.tail _ (.head _)))
  | sp => exact h.setSp (hsp rfl)

/-- All five flags written. -/
theorem setFlags {f : Flags} (h : WritesOwn i s t) (hszap : writesSzap i.opcode = true)
    (hcy : writesCy i.opcode = true) : WritesOwn i s (t.setFlags f) :=
  { h with szap := fun hno => (nomatch hszap.symm.trans hno), cy := fun hno => nomatch hcy.symm.trans hno }

/-- S, Z, AC and P written, and CY as it was. -/
theorem setFlagsButCy {f : Flags} (h : WritesOwn i s t) (hszap : writesSzap i.opcode = true)
    (hcy : f.cy = s.flags.cy) : WritesOwn i s (t.setFlags f) :=
  { h with szap := fun hno => (nomatch hszap.symm.trans hno), cy := fun _ => hcy }

theorem setCy {v : Bool} (h : WritesOwn i s t) (hcy : writesCy i.opcode = true) : WritesOwn i s (t.setCy v) :=
  { h with cy := fun hno => nomatch hcy.symm.trans hno }

theorem writeByte {a : Word} {v : Byte} (h : WritesOwn i s t) (hmem : writesMemory i.opcode = true) :
    WritesOwn i s (t.writeByte a v) :=
  { h with mem := fun hno => nomatch hmem.symm.trans hno }

theorem writeBoth {a v : Word} (h : WritesOwn i s t) (hmem : writesMemory i.opcode = true) :
    WritesOwn i s (t.writeBoth a v) := (h.writeByte hmem).writeByte hmem

/-- A word pushed. -/
theorem pushed {v : Word} (h : WritesOwn i s t) (hsp : writesSp i.opcode = true)
    (hmem : writesMemory i.opcode = true) : WritesOwn i s ((t.writeBoth (t.sp - 2) v).setSp (t.sp - 2)) :=
  (h.writeBoth hmem).setSp hsp

theorem emit {ev : Event} (h : WritesOwn i s t) : WritesOwn i s (t.emit ev) := { h with }

theorem input {port : Byte} (h : WritesOwn i s t) : WritesOwn i s (t.input port) := { h with }

theorem output {port v : Byte} (h : WritesOwn i s t) (hi : i = .outPort port) : WritesOwn i s (t.output port v) :=
  { h with ports := fun hno => absurd hi (hno port) }

/-- EI may write every control bit and the budget. -/
theorem control {ie halt : Bool} {pend : Byte} {pc : Word} {budget : Int} (h : WritesOwn .ei s t) :
    WritesOwn .ei s { t with ie := ie, halt := halt, pend := pend, pc := pc, budget := budget } :=
  { h with
    ie := fun hno => absurd rfl hno
    pend := fun hno => absurd rfl hno
    budget := fun hno => absurd rfl hno
    halt := fun hno => absurd rfl hno }

theorem setIe {ie : Bool} (h : WritesOwn .di s t) : WritesOwn .di s { t with ie := ie } :=
  { h with ie := fun _ hno => absurd rfl hno }

theorem setHalt {halt : Bool} (h : WritesOwn .hlt s t) : WritesOwn .hlt s { t with halt := halt } :=
  { h with halt := fun _ hno => absurd rfl hno }

end WritesOwn

end Sys2Proof.Machine
end

section
/-! PROOFS. 10_state.md R25, R35 to R38, R41, R45 and 20_memory.md R69: every instruction, form by form, writes only
what the tables of writers let it write. -/

namespace Sys2Proof.Safety

open Sys2Proof.Machine

theorem Coded.opcode_eq {i : Instr} {op : Byte} {operands : List Byte} {cost : Nat} (h : Coded i (op :: operands) cost) :
    i.opcode = op := by
  rw [Instr.opcode, h.1]; rfl

/-- A table of writers that lists an opcode byte lists each instruction with that byte. -/
theorem Coded.lists {i : Instr} {op : Byte} {operands : List Byte} {cost : Nat} {writers : Byte → Bool}
    (h : Coded i (op :: operands) cost) (hop : writers op = true) : writers i.opcode = true := by
  rw [h.opcode_eq, hop]

end Sys2Proof.Safety

namespace Sys2Proof.Machine

open Sys2Proof.Safety

/-- The bind of an outcome that answers, taken apart. -/
theorem next_of_bind {α : Type} {r : Except Fault α} {k : α → Except Fault State} {u : State}
    (h : outcome (r >>= k) = .next u) : ∃ x, r = .ok x ∧ outcome (k x) = .next u := by
  obtain ⟨x, hx, hk⟩ := except_bind_eq_ok.1 (outcome_eq_next.1 h)
  exact ⟨x, hx, outcome_eq_next.2 hk⟩

theorem isAlu_alu (op : AluOp) (x : Src) : isAlu (Form.alu op x).opcode = true := by
  cases x with
  | reg r => cases op <;> cases r <;> rfl
  | m => cases op <;> rfl
  | imm v => exact (coded_alu op (.imm v)).lists (by cases op <;> rfl)

theorem writesSzap_of_isAlu {op : Byte} (h : isAlu op = true) : writesSzap op = true := by
  simp [writesSzap, h]

theorem writesCy_of_isAlu {op : Byte} (h : isAlu op = true) : writesCy op = true := by
  simp [writesCy, h]

/-- INR and DCR keep CY. -/
theorem Flags.increment_cy (f : Flags) (v : Byte) : (f.increment v).cy = f.cy := rfl
theorem Flags.decrement_cy (f : Flags) (v : Byte) : (f.decrement v).cy = f.cy := rfl

/-- The operations of the ALU group but CMP write A. -/
theorem writesReg_alu {op : AluOp} (hop : op ≠ .cmp) (x : Src) : writesReg .a (Form.alu op x).opcode = true := by
  cases op with
  | cmp => exact absurd rfl hop
  | add | adc | sub | sbb | ana | xra | ora =>
    cases x with
    | reg r => cases r <;> rfl
    | m => rfl
    | imm v => exact (coded_alu _ (.imm v)).lists rfl

theorem returnTo_eq_ok {s t : State} : returnTo s = .ok t ↔
    PopFits s ∧ t = (s.setSp (s.sp + 2)).setPc (wordOf (s.readByte (s.sp + 1)) (s.readByte s.sp)) := by
  by_cases h : PopFits s
  · rw [returnTo_of_fits h]; simp [h, eq_comm]
  · rw [returnTo_of_not_fits h]; simp [h]

/-- A read of a port that answers has called the handler. -/
theorem eq_of_portIn_eq_ok {pc0 : Word} {s : State} {port : Byte} {r : Byte × State} (h : portIn pc0 s port = .ok r) :
    r = (Config.inputByte s.inDraws port, s.input port) := by
  cases hin : s.inHandler with
  | true => cases (portIn_of_handler hin).symm.trans h; rfl
  | false => cases (portIn_of_no_handler hin).symm.trans h

/-- A write of a port that answers has called the handler. -/
theorem eq_of_portOut_eq_ok {pc0 : Word} {s t : State} {port v : Byte} (h : portOut pc0 s port v = .ok t) :
    t = s.output port v := by
  cases hout : s.outHandler with
  | true => cases (portOut_of_handler hout).symm.trans h; rfl
  | false => cases (portOut_of_no_handler hout).symm.trans h

section

variable {i : Instr} {s t u : State}

theorem writesOwn_complete {len : Nat} (ht : WritesOwn i s t) (h : complete len s t = .next u) : WritesOwn i s u := by
  obtain ⟨-, rfl⟩ := complete_eq_next.1 h
  exact ht.setPc

/-- The ALU group writes the flags, and A but in a comparison. -/
theorem writesOwn_alu {op : AluOp} {x : Src} {len : Nat} {f : Flags} (ht : WritesOwn (Form.alu op x) s t)
    (h : complete len s (t.setFlags f) = .next u) : WritesOwn (Form.alu op x) s u := by
  exact writesOwn_complete (ht.setFlags (writesSzap_of_isAlu (isAlu_alu op x)) (writesCy_of_isAlu (isAlu_alu op x))) h

/-- A rotate writes A and CY. -/
theorem writesOwn_rotateA {result : Byte × Bool} (ha : writesReg .a i.opcode = true) (hcy : writesCy i.opcode = true)
    (h : rotateA result s = .next u) : WritesOwn i s u :=
  writesOwn_complete ((WritesOwn.self.setReg ha).setCy hcy) h

theorem writesOwn_callTo {target v : Word} (hsp : writesSp i.opcode = true) (hmem : writesMemory i.opcode = true)
    (h : outcome (callTo target v s) = .next u) : WritesOwn i s u := by
  obtain ⟨t, ht, h⟩ := next_of_bind h
  obtain ⟨-, rfl⟩ := push16_eq_ok.1 ht
  cases h
  exact (WritesOwn.self.pushed hsp hmem).setPc

theorem writesOwn_pushValue {v : Word} (hsp : writesSp i.opcode = true) (hmem : writesMemory i.opcode = true)
    (h : pushValue v s = .next u) : WritesOwn i s u := by
  obtain ⟨next, -, h⟩ := next_of_bind h
  exact writesOwn_callTo hsp hmem h

theorem writesOwn_returnTo (hsp : writesSp i.opcode = true) (h : outcome (returnTo s) = .next u) :
    WritesOwn i s u := by
  obtain ⟨-, ht⟩ := returnTo_eq_ok.1 (outcome_eq_next.1 h)
  exact ht ▸ (WritesOwn.self.setSp hsp).setPc

/-- EI writes the control bits and the budget, and pushes where it delivers. -/
theorem writesOwn_ei (h : exec .ei s = .next u) : WritesOwn .ei s u := by
  obtain ⟨-, next, rfl⟩ | ⟨next, id, rfl⟩ := exec_ei_eq_next h
  · exact WritesOwn.self.control
  · exact (WritesOwn.self.control.pushed rfl rfl).control

end

/-- Every instruction writes only what the tables of writers let it write. -/
theorem writesOwn_of_exec {i : Instr} {s u : State} (h : exec i s = .next u) : WritesOwn i s u := by
  cases inForm i with
  | mov dst src =>
    exact writesOwn_complete (WritesOwn.self.setReg (by cases dst <;> cases src <;> rfl)) (exec_mov dst src s ▸ h)
  | movFromM dst => exact writesOwn_complete (WritesOwn.self.setReg (by cases dst <;> rfl)) (exec_movFromM dst s ▸ h)
  | movToM src => exact writesOwn_complete (WritesOwn.self.writeByte (by cases src <;> rfl)) (exec_movToM src s ▸ h)
  | mvi dst v =>
    exact writesOwn_complete (WritesOwn.self.setReg ((coded_mvi dst v).lists (by cases dst <;> rfl)))
      (exec_mvi dst v s ▸ h)
  | lxi p v =>
    exact writesOwn_complete (WritesOwn.self.setPair (by rw [(coded_lxi p v).opcode_eq]; cases p <;> decide +kernel)
      (by rintro rfl; exact (coded_lxi .sp v).lists rfl)) (exec_lxi p v s ▸ h)
  | ldax p => exact writesOwn_complete (WritesOwn.self.setReg (by cases p <;> rfl)) (exec_ldax p s ▸ h)
  | stax p => exact writesOwn_complete (WritesOwn.self.writeByte (by cases p <;> rfl)) (exec_stax p s ▸ h)
  | inr dst =>
    exact writesOwn_complete ((WritesOwn.self.setReg (by cases dst <;> rfl)).setFlagsButCy (by cases dst <;> rfl)
      (Flags.increment_cy _ _)) (exec_inr dst s ▸ h)
  | dcr dst =>
    exact writesOwn_complete ((WritesOwn.self.setReg (by cases dst <;> rfl)).setFlagsButCy (by cases dst <;> rfl)
      (Flags.decrement_cy _ _)) (exec_dcr dst s ▸ h)
  | inx p =>
    exact writesOwn_complete (WritesOwn.self.setPair (by cases p <;> decide +kernel) (by rintro rfl; rfl))
      (exec_inx p s ▸ h)
  | dcx p =>
    exact writesOwn_complete (WritesOwn.self.setPair (by cases p <;> decide +kernel) (by rintro rfl; rfl))
      (exec_dcx p s ▸ h)
  | dad p =>
    exact writesOwn_complete ((WritesOwn.self.setPair (p := .hl) (by cases p <;> decide +kernel) nofun).setCy
      (by cases p <;> rfl)) (exec_dad p s ▸ h)
  | alu op x => cases op with
    | add => exact writesOwn_alu (WritesOwn.self.setReg (writesReg_alu (by decide) x)) (exec_alu_add x s ▸ h)
    | adc => exact writesOwn_alu (WritesOwn.self.setReg (writesReg_alu (by decide) x)) (exec_alu_adc x s ▸ h)
    | sub => exact writesOwn_alu (WritesOwn.self.setReg (writesReg_alu (by decide) x)) (exec_alu_sub x s ▸ h)
    | sbb => exact writesOwn_alu (WritesOwn.self.setReg (writesReg_alu (by decide) x)) (exec_alu_sbb x s ▸ h)
    | ana => exact writesOwn_alu (WritesOwn.self.setReg (writesReg_alu (by decide) x)) (exec_alu_ana x s ▸ h)
    | xra => exact writesOwn_alu (WritesOwn.self.setReg (writesReg_alu (by decide) x)) (exec_alu_xra x s ▸ h)
    | ora => exact writesOwn_alu (WritesOwn.self.setReg (writesReg_alu (by decide) x)) (exec_alu_ora x s ▸ h)
    | cmp => exact writesOwn_alu .self (exec_alu_cmp x s ▸ h)
  | jump cond a16 =>
    obtain ⟨next, -, h⟩ := next_of_bind (exec_jump cond a16 s ▸ h)
    cases h; exact WritesOwn.self.setPc
  | callIf cond a16 =>
    obtain ⟨next, -, h⟩ := next_of_bind (exec_callIf cond a16 s ▸ h)
    split at h
    · exact writesOwn_callTo ((coded_callIf cond a16).lists (by cases cond <;> rfl))
        ((coded_callIf cond a16).lists (by cases cond <;> rfl)) h
    · cases h; exact WritesOwn.self.setPc
  | returnIf cond =>
    obtain ⟨next, -, h⟩ := next_of_bind (exec_returnIf cond s ▸ h)
    split at h
    · exact writesOwn_returnTo (by cases cond <;> rfl) h
    · cases h; exact WritesOwn.self.setPc
  | rst n =>
    obtain ⟨next, -, h⟩ := next_of_bind (exec_rst n s ▸ h)
    exact writesOwn_callTo (by fin_cases n <;> rfl) (by fin_cases n <;> rfl) h
  | push p => exact writesOwn_pushValue (by cases p <;> rfl) (by cases p <;> rfl) (exec_push p s ▸ h)
  | pop p =>
    obtain ⟨next, -, h⟩ := next_of_bind (exec_pop p s ▸ h)
    obtain ⟨⟨v, t⟩, ht, h⟩ := next_of_bind h
    obtain ⟨-, ⟨⟩⟩ := pop16_eq_ok.1 ht
    cases h
    exact ((WritesOwn.self.setSp (by cases p <;> rfl)).setPair (by cases p <;> decide +kernel)
      (by cases p <;> nofun)).setPc
  | undocumented op hop => exact writesOwn_complete WritesOwn.self.emit (exec_undocumented hop s ▸ h)
  | shld a16 =>
    obtain ⟨next, -, h⟩ := next_of_bind (exec_shld a16 s ▸ h)
    obtain ⟨t, ht, h⟩ := next_of_bind h
    obtain ⟨-, rfl⟩ := writeWord_eq_ok.1 ht
    cases h
    exact (WritesOwn.self.writeBoth ((coded_shld a16).lists rfl)).setPc
  | lhld a16 =>
    obtain ⟨next, -, h⟩ := next_of_bind (exec_lhld a16 s ▸ h)
    obtain ⟨v, -, h⟩ := next_of_bind h
    cases h
    exact (WritesOwn.self.setPair (p := .hl) (by rw [(coded_lhld a16).opcode_eq]; decide +kernel) nofun).setPc
  | sta a16 => exact writesOwn_complete (WritesOwn.self.writeByte ((coded_sta a16).lists rfl)) (exec_sta a16 s ▸ h)
  | mviM d8 => exact writesOwn_complete (WritesOwn.self.writeByte ((coded_mviM d8).lists rfl)) (exec_mviM d8 s ▸ h)
  | lda a16 => exact writesOwn_complete (WritesOwn.self.setReg ((coded_lda a16).lists rfl)) (exec_lda a16 s ▸ h)
  | jmp a16 =>
    obtain ⟨next, -, h⟩ := next_of_bind (exec_jmp a16 s ▸ h)
    cases h; exact WritesOwn.self.setPc
  | call a16 =>
    obtain ⟨next, -, h⟩ := next_of_bind (exec_call a16 s ▸ h)
    exact writesOwn_callTo ((coded_call a16).lists rfl) ((coded_call a16).lists rfl) h
  | outPort d8 =>
    obtain ⟨next, -, h⟩ := next_of_bind (exec_outPort d8 s ▸ h)
    obtain ⟨t, ht, h⟩ := next_of_bind h
    obtain rfl := eq_of_portOut_eq_ok ht
    cases h
    exact (WritesOwn.self.output rfl).setPc
  | inPort d8 =>
    obtain ⟨next, -, h⟩ := next_of_bind (exec_inPort d8 s ▸ h)
    obtain ⟨⟨v, t⟩, ht, h⟩ := next_of_bind h
    cases eq_of_portIn_eq_ok ht
    cases h
    exact (WritesOwn.self.input.setReg ((coded_inPort d8).lists rfl)).setPc
  | nop => exact writesOwn_complete .self (exec_nop s ▸ h)
  | rlc => exact writesOwn_rotateA rfl rfl (exec_rlc s ▸ h)
  | rrc => exact writesOwn_rotateA rfl rfl (exec_rrc s ▸ h)
  | ral => exact writesOwn_rotateA rfl rfl (exec_ral s ▸ h)
  | rar => exact writesOwn_rotateA rfl rfl (exec_rar s ▸ h)
  | daa => exact writesOwn_complete ((WritesOwn.self.setReg rfl).setFlags rfl rfl) (exec_daa s ▸ h)
  | cma => exact writesOwn_complete (WritesOwn.self.setReg rfl) (exec_cma s ▸ h)
  | inrM =>
    exact writesOwn_complete ((WritesOwn.self.writeByte rfl).setFlagsButCy rfl (Flags.increment_cy _ _))
      (exec_inrM s ▸ h)
  | dcrM =>
    exact writesOwn_complete ((WritesOwn.self.writeByte rfl).setFlagsButCy rfl (Flags.decrement_cy _ _))
      (exec_dcrM s ▸ h)
  | stc => exact writesOwn_complete (WritesOwn.self.setCy rfl) (exec_stc s ▸ h)
  | cmc => exact writesOwn_complete (WritesOwn.self.setCy rfl) (exec_cmc s ▸ h)
  | hlt => exact writesOwn_complete WritesOwn.self.setHalt (exec_hlt s ▸ h)
  | ret =>
    obtain ⟨next, -, h⟩ := next_of_bind (exec_ret s ▸ h)
    exact writesOwn_returnTo rfl h
  | xthl =>
    obtain ⟨next, -, h⟩ := next_of_bind (exec_xthl s ▸ h)
    obtain ⟨v, -, h⟩ := next_of_bind h
    obtain ⟨t, ht, h⟩ := next_of_bind h
    obtain ⟨-, rfl⟩ := writeWord_eq_ok.1 ht
    cases h
    exact ((WritesOwn.self.writeBoth rfl).setPair (p := .hl) (by decide +kernel) nofun).setPc
  | pchl =>
    obtain ⟨next, -, h⟩ := next_of_bind (exec_pchl s ▸ h)
    cases h; exact WritesOwn.self.setPc
  | xchg =>
    exact writesOwn_complete ((WritesOwn.self.setPair (p := .hl) (by decide +kernel) nofun).setPair (p := .de)
      (by decide +kernel) nofun) (exec_xchg s ▸ h)
  | popPsw =>
    obtain ⟨next, -, h⟩ := next_of_bind (exec_popPsw s ▸ h)
    obtain ⟨⟨v, t⟩, ht, h⟩ := next_of_bind h
    obtain ⟨-, ⟨⟩⟩ := pop16_eq_ok.1 ht
    cases h
    exact (((WritesOwn.self.setSp rfl).setReg rfl).setFlags rfl rfl).setPc
  | di => exact writesOwn_complete WritesOwn.self.setIe (exec_di s ▸ h)
  | pushPsw => exact writesOwn_pushValue rfl rfl (exec_pushPsw s ▸ h)
  | sphl => exact writesOwn_complete (WritesOwn.self.setSp rfl) (exec_sphl s ▸ h)
  | ei => exact writesOwn_ei h

/-- Settles O55, by what every instruction may write. -/
theorem onlyNamedInstructionsWriteFlags : Obligations.OnlyNamedInstructionsWriteFlags := fun _ _ _ h =>
  ⟨(writesOwn_of_exec h).szap, (writesOwn_of_exec h).cy⟩

/-- Settles O56, by what every instruction may write. -/
theorem onlyNamedInstructionsWriteRegisters : Obligations.OnlyNamedInstructionsWriteRegisters := fun _ _ _ h =>
  ⟨(writesOwn_of_exec h).reg, (writesOwn_of_exec h).sp⟩

/-- Settles O57, by what every instruction may write. -/
theorem onlyNamedInstructionsWriteTheRest : Obligations.OnlyNamedInstructionsWriteTheRest := fun _ _ _ h =>
  have hown := writesOwn_of_exec h
  ⟨hown.ie, fun hei => ⟨hown.pend hei, hown.budget hei⟩, hown.halt, hown.ports, hown.mem, hown.lastop, hown.params,
    hown.inHandler, hown.outHandler, hown.faultRec⟩

end Sys2Proof.Machine
end
